-- ==== Sys2Proof/Word.lean ====
section
/-! DEFINITION. The words the manual counts in. -/

namespace Sys2Proof

/-- One byte of host memory, of a header, of a slot or of a frame. -/
abbrev Byte := BitVec 8

/-- A 32-bit word: a register, a parameter, an answer word, a wrapping counter (convention (4)). -/
abbrev Word := BitVec 32

/-- The seconds of the Time Counter and of every time stamp: 0 to 2^48 - 1 (section 8.1). -/
abbrev Seconds := BitVec 48

end Sys2Proof
end

