-- ==== Sys2Proof/Syntax.lean ====
section
/-! DEFINITION. The commands of the part: one constructor of `Instr` for each row of spec/opcode_table.json. -/

namespace Sys2Proof

/-- The two carriers of the hop (convention (7)). -/
inductive Carrier where
  | a
  | b
  deriving DecidableEq, Repr

/-- What happens outside the part before a command is taken. None of it is a row of the table: the host writes
its own memory and reads registers, a port's link comes up or goes down, the host's PCIe configuration changes, the local
oscillator ticks (log entries 1 and 2). -/
inductive Outside where
  /-- the host writes one byte of its memory (R5, R6, R15) -/
  | hostByte (address : Nat) (value : Byte)
  /-- the receiver of a sector port reports its link (R65) -/
  | portLink (port : Fin 6) (up : Bool)
  /-- the host enables or disables the part's bus mastering (R20, R23) -/
  | busMaster (on : Bool)
  /-- the host enables or disables the part's message-signalled interrupts (R23) -/
  | interrupts (on : Bool)
  /-- the host reads a register other than EVENTS, whose read is a row of the table; `be` names the bytes (R191) -/
  | registerRead (be : BitVec 4) (offset : Nat)
  /-- the local oscillator makes `n` ticks (R129) -/
  | ticks (n : Nat)
  deriving DecidableEq, Repr

/-- The work on the Sheet Area that a bus error or a write to RESTART breaks off (R4, R20). -/
inductive SheetWork where
  /-- a scan (R8) -/
  | scan
  /-- the writing of the oldest waiting answer (R14) -/
  | answer
  /-- the re-read of the held test sheets (R15) -/
  | reread
  /-- the rewrite of a standing report (R17) -/
  | rewrite (sheet : Fin 32)
  /-- the answers and the re-read of the resumption after a sheet fault (R21) -/
  | resume
  deriving DecidableEq, Repr

/-- What a modem delivers with one inbound superframe (R33): the 62 header bytes, the 128 slots (owner, carry-over
length, payload and check, section 12.6), and the receive quality report. -/
structure Delivery where
  header : Vector Byte 62
  slots : Vector (List Byte) 128
  /-- 0.1 dB, 0 to 600 -/
  snr : Nat
  /-- 0.1 dBm, -1,000 to 0 -/
  level : Int
  /-- uncorrected FEC blocks, 0 to 255 -/
  fecBlocks : Nat
  /-- the header-check result: GOOD or BAD -/
  headerGood : Bool
  deriving DecidableEq, Repr

/-- The commands, in the order of spec/opcode_table.json. `env` is what happened outside before the command. `be` names
the bytes of a register access (R191). An order carries the sheet it was taken from and its parameter words. -/
inductive Instr where
  | powerOnReset (carrierBFitted : Bool)
  | sheetBaseHiWrite (be : BitVec 4) (value : Word)
  | sheetBaseLoWrite (be : BitVec 4) (value : Word)
  | attentionWrite (env : List Outside) (value : Word)
  | eventsRead (be : BitVec 4)
  | eventMaskWrite (be : BitVec 4) (value : Word)
  | restartWrite (be : BitVec 4) (value : Word)
  | registerWriteIgnored (offset : Nat) (value : Word)
  | softRestart (env : List Outside)
  | scan (env : List Outside)
  | writeAnswer (env : List Outside)
  | busError (env : List Outside) (work : SheetWork) (access : Nat)
  | standingRewrite (env : List Outside) (sheet : Fin 32)
  | phase (sheet : Fin 32) (params : List Word)
  | carrierStart (sheet : Fin 32) (params : List Word)
  | carrierStop (sheet : Fin 32) (params : List Word)
  | profileSet (sheet : Fin 32) (params : List Word)
  | portSet (sheet : Fin 32) (params : List Word)
  | channelSet (sheet : Fin 32) (params : List Word)
  | tenantSet (sheet : Fin 32) (params : List Word)
  | tenantRetire (sheet : Fin 32) (params : List Word)
  | timingSet (sheet : Fin 32) (params : List Word)
  | ppsSet (sheet : Fin 32) (params : List Word)
  | gnssLabel (sheet : Fin 32) (params : List Word)
  | verdictSet (sheet : Fin 32) (params : List Word)
  | test (sheet : Fin 32) (params : List Word)
  | testStop (sheet : Fin 32) (params : List Word)
  | standing (sheet : Fin 32) (params : List Word)
  | read (sheet : Fin 32) (params : List Word)
  | superframeStart (env : List Outside)
  | drainEnd (env : List Outside) (carrier : Carrier)
  | profilePoint (env : List Outside)
  | planPoint (env : List Outside)
  | delivery (env : List Outside) (carrier : Carrier) (delivered : Delivery)
  | miss (env : List Outside) (carrier : Carrier)
  | carrierBWaitExpiry (env : List Outside)
  | arrival (env : List Outside) (port : Fin 6) (bytes : List Byte) (checkGood : Bool)
  | aging (env : List Outside)
  | halfSecondMark (env : List Outside)
  | wholeSecondMark (env : List Outside)
  | timeCheckCompletion (env : List Outside)
  | holdoverLimitExpiry (env : List Outside)
  | gnssEdge (env : List Outside)
  | ppsPulseInstant (env : List Outside) (output : Fin 2)
  | ppsPulseEnd (env : List Outside) (output : Fin 2)
  | sweepSample (env : List Outside) (writeGood : Bool)
  | noLoop (env : List Outside)
  | berDurationEnd (env : List Outside)
  | delayCalTimeout (env : List Outside)
  deriving DecidableEq, Repr

end Sys2Proof
end

