-- ==== Sys2Proof/Decode.lean ====
section
/-! DEFINITION. The words of the opcode table. No row of spec/opcode_table.json has bits (every "fields" is empty and
no row has "fixed"), so no word spells a command. Log entry 5. -/

namespace Sys2Proof

/-- The command that a word of `nbits` bits spells: none, for the table gives no row any bits. -/
def decodeTableWord (_nbits _w : Nat) : Option Instr := none

end Sys2Proof
end

