-- ==== Sys2Proof/Config.lean ====
section
/-! DEFINITION. What the manual leaves open. Each constant is opaque: no proof can see its value. -/

namespace Sys2Proof

/-- The order in which steps that fall due at one and the same tick are taken. The manual settles such
meetings 'by the order in which the two are taken' (R131, R138, R140, R161) and never says which order.
The first argument is the model's own count of such meetings (`State.openCount`), the second the place
of the step in the list of those that fell due; the steps are taken by rising key. Log entry 3. -/
opaque Config.takingOrder : Nat → Nat → Nat

/-- The frame check a sector port forms over the bytes of a frame it sends: section 12.7 names the check and gives no way
to compute it. Log entry 21. -/
opaque Config.frameCheck : List Byte → BitVec 32

/-- How many accesses of the work in progress on the Sheet Area have been made when a write to RESTART breaks it off (R4): R4
does not fix it. The argument is `State.openCount`. Log entry 52. -/
opaque Config.accessesMade : Nat → Nat

/-- The mean a TIME_CHECK reports when it counted no pair: R179 divides the sum by the pair count and states
no result for a count of 0. The argument is `State.openCount`. Log entry 4. -/
opaque Config.meanOfNoPairs : Nat → Int

end Sys2Proof
end

