-- ==== Sys2Proof/Machine/State.lean ====
section
/-! DEFINITION. The state of the part, block by block (chapter 0, block overview), and its values after power-on
reset. Every field is plain data. -/

namespace Sys2Proof.Machine

abbrev Port := Fin 6
abbrev Tenant := Fin 8
abbrev Channel := Fin 64
abbrev Profile := Fin 8
abbrev FlagIx := Fin 16
abbrev SheetIx := Fin 32
abbrev PpsOut := Fin 2

/-- One value for each carrier. -/
structure PerCarrier (α : Type) where
  a : α
  b : α
  deriving DecidableEq, Repr

/-- A time stamp: seconds and nanoseconds, the fraction not kept (R33, R44). -/
structure Stamp where
  sec : Seconds
  ns : Nat
  deriving DecidableEq, Repr

/-! ### Enumerated values (section 12.1) -/

/-- The site phases (R181). -/
inductive Phase where
  | setup | align | commission | service | windDown
  deriving DecidableEq, Repr

/-- The timing class, the timing requirement and the squelch class (R81, R135, R157). -/
inductive TimingClass where
  | none | frequency | phase
  deriving DecidableEq, Repr

/-- Transmit states (section 2.5). -/
inductive TxState where
  | off | starting | running | draining
  deriving DecidableEq, Repr

/-- Receive states (section 2.6). -/
inductive RxState where
  | hunt | verify | sync | flywheel
  deriving DecidableEq, Repr

/-- Tenant states (section 5.2). -/
inductive TenantState where
  | vacant | pending | admitted | held | retiring
  deriving DecidableEq, Repr

/-- Timing states (section 9.5). -/
inductive TimingState where
  | freerun | acquiring | locked | holdover | holdoverSpent
  deriving DecidableEq, Repr

/-- Timing sources (R142). -/
inductive Source where
  | gnss | linkA | linkB
  deriving DecidableEq, Repr

/-- Values of a verdict flag (R162). -/
inductive VerdictValue where
  | unset | pass | fail
  deriving DecidableEq, Repr

/-- Test kinds (section 10.1). -/
inductive TestKind where
  | sweep | loopBerOut | loopBerIn | delayCal | timeCheck
  deriving DecidableEq, Repr

/-- Who wrote a verdict flag (R162). -/
inductive Writer where
  | test (kind : TestKind) | order
  deriving DecidableEq, Repr

/-- The owner of a slot (R31). -/
inductive SlotOwner where
  | tenant (t : Tenant) | test | idle
  deriving DecidableEq, Repr

/-- One run of a run list (R108). -/
structure Run where
  owner : SlotOwner
  count : Nat
  deriving DecidableEq, Repr

/-- The event kinds (R22). -/
inductive EventKind where
  | answer | carrier | profile | timing | tenant | verdict | pool | sheetFault
  deriving DecidableEq, Repr

/-- The orders of the catalogue (R10). -/
inductive Order where
  | phase | carrierStart | carrierStop | profileSet | portSet | channelSet | tenantSet | tenantRetire | timingSet
  | ppsSet | gnssLabel | verdictSet | test | testStop | standing | read
  deriving DecidableEq, Repr

/-- The answer codes (R13). -/
inductive AnswerCode where
  | done | adjusted | unknownOrder | badParameter | wrongPhase | busy | notReady | noRoom | labelMismatch | passed
  | failed | completed | stopped | endedProfileChange | endedLinkLoss | noLoop
  deriving DecidableEq, Repr

/-- Report kinds (R16). -/
inductive ReportKind where
  | link | shares | timing | verdicts | queues
  deriving DecidableEq, Repr

/-! ### Sheet Interface (chapter 1) -/

/-- An entry of the held-sheets list (R9): sheet, order (its code and parameters; the owner is the code's, R10), and
the base in force at the taking. -/
structure Held where
  sheet : SheetIx
  base : BitVec 64
  code : Byte
  params : List Word
  deriving DecidableEq, Repr

/-- An entry of the standing list (R16, R17). -/
structure StandingEntry where
  sheet : SheetIx
  base : BitVec 64
  kind : ReportKind
  period : Nat
  group : Nat
  taken : Word
  edition : Word
  deriving DecidableEq, Repr

/-- The rewrite of a standing report that fell due at a superframe start and is not yet made: its sheet and the words of
the report as the owners stood at that start (R7, R17). A VERDICTS report is composed anew at the rewrite (R162). -/
structure Rewrite where
  sheet : SheetIx
  words : List Word
  deriving DecidableEq, Repr

/-- An answer handed to the Sheet Interface and not yet written (R13, R20). `standing` marks the answer of an accepted
STANDING order (R14, R16). -/
structure Answer where
  sheet : SheetIx
  code : AnswerCode
  words : List Word
  standing : Bool
  deriving DecidableEq, Repr

/-- The Sheet Interface (R1 to R4, R22 to R25). `scan` holds the base a scan in progress began with, `rewrites`
the rewrites that are due and not yet made, in the order of the standing list. `resuming` says that a resumption has still
to write its answers and to read the held test sheets again (R21). -/
structure Shi where
  base : BitVec 64
  pendingHi : Option Word
  events : Word
  mask : Word
  fault : Bool
  restarting : Bool
  scan : Option (BitVec 64)
  scanPending : Bool
  resuming : Bool
  lastTaken : SheetIx
  held : List Held
  standing : List StandingEntry
  rewrites : List Rewrite
  answers : List Answer
  carrierBFitted : Bool
  deriving DecidableEq, Repr

/-- R24. -/
def Shi.reset (fitted : Bool) : Shi where
  base := 0
  pendingHi := none
  events := 0
  mask := 0
  fault := false
  restarting := false
  scan := none
  scanPending := false
  resuming := false
  lastTaken := 31
  held := []
  standing := []
  rewrites := []
  answers := []
  carrierBFitted := fitted

/-! ### Carrier Framers (chapter 2) -/

/-- An entry of a Pending Departures list (R44). -/
structure Departure where
  superframe : Word
  t1 : Stamp
  profile : Profile
  deriving DecidableEq, Repr

/-- A carrier framer. `run` is the length of the run in sequence in VERIFY, `misses` the miss count of FLYWHEEL (R39,
R40). `missAt` is the counter advance at which the miss timer expires, none while it is idle (R34). `lastPlanned` is
the last planned superframe of a drain (R37). `heldOut`, `heldIn` and `heldEdition` are what the framer holds from
the plan point (R28). The profiles it holds as committed stand in the Link Adaptation Unit (`Direction.committed`). -/
structure Framer where
  tx : TxState
  rx : RxState
  run : Nat
  expected : Word
  misses : Nat
  missAt : Option Nat
  farSync : Option Word
  departures : List Departure
  headerErrors : Word
  slotErrors : Word
  lastPlanned : Word
  heldOut : Option (List Run)
  heldIn : Option (List Run)
  heldEdition : Word
  deriving DecidableEq, Repr

/-- R38. -/
def Framer.reset : Framer where
  tx := .off
  rx := .hunt
  run := 0
  expected := 0
  misses := 0
  missAt := none
  farSync := none
  departures := []
  headerErrors := 0
  slotErrors := 0
  lastPlanned := 0
  heldOut := none
  heldIn := none
  heldEdition := 0

/-! ### Link Adaptation Unit (chapter 3) -/

/-- An entry of a Profile Table (R48). P0 holds no thresholds: both are 0. -/
structure ProfileEntry where
  payload : Nat
  up : Nat
  down : Nat
  verdict : Option FlagIx
  delay : Option Int
  deriving DecidableEq, Repr

/-- One direction of one carrier: its quality window (oldest first), the last committed profile, the held next profile
and the step-up count (sections 3.2, 3.3). -/
structure Direction where
  window : List Nat
  committed : Option Profile
  next : Profile
  stepUp : Nat
  deriving DecidableEq, Repr

/-- A pin (R61). -/
structure Pin where
  outbound : Profile
  inbound : Profile
  alternation : Bool
  deriving DecidableEq, Repr

/-- A modem's report kept as the last local report (R54). -/
structure LocalReport where
  snr : Nat
  level : Int
  deriving DecidableEq, Repr

/-- The Link Adaptation Unit's record of one carrier (R64). -/
structure Adaptation where
  table : Vector ProfileEntry 8
  outbound : Direction
  inbound : Direction
  lastLocal : Option LocalReport
  pin : Option Pin
  deriving DecidableEq, Repr

/-- R64: no last committed profile, held next profile P0, step-up count 0, empty window. -/
def Direction.reset : Direction := { window := [], committed := none, next := 0, stepUp := 0 }

/-- The Profile Table after power-on reset (R48). -/
def profileTableReset : Vector ProfileEntry 8 :=
  #v[{ payload := 48, up := 0, down := 0, verdict := none, delay := some 0 },
     { payload := 96, up := 125, down := 105, verdict := none, delay := none },
     { payload := 144, up := 160, down := 140, verdict := none, delay := none },
     { payload := 192, up := 195, down := 175, verdict := none, delay := none },
     { payload := 256, up := 230, down := 210, verdict := none, delay := none },
     { payload := 320, up := 265, down := 245, verdict := none, delay := none },
     { payload := 384, up := 300, down := 280, verdict := none, delay := none },
     { payload := 448, up := 335, down := 315, verdict := none, delay := none }]

/-- R64. -/
def Adaptation.reset : Adaptation where
  table := profileTableReset
  outbound := .reset
  inbound := .reset
  lastLocal := none
  pin := none

/-! ### Port and Queue Unit (chapter 4) -/

/-- An entry of the Port Table with the port's counters (R65, R79). -/
structure PortEntry where
  tenant : Option Tenant
  defaultChannel : Channel
  ingress : Word
  malformed : Word
  unassigned : Word
  egress : Word
  egressDiscard : Word
  deriving DecidableEq, Repr

/-- A frame record of a channel queue (R75). Its length is the number of its bytes and its cell chain has one cell for
each 64 of them, the last one perhaps part full; which cells they are has no effect (section 4.3). -/
structure Frame where
  bytes : List Byte
  port : Port
  arrival : Word
  deriving DecidableEq, Repr

/-- An entry of the Channel Table with its queue (head first) and its counters (R68, R79). The occupancy and the queued
stream bytes are read from the queue (`ChannelEntry.cells`, `State.streamBytes`). -/
structure ChannelEntry where
  owner : Option Tenant
  priority : Fin 4
  limit : Nat
  maxAge : Nat
  egressPort : Option Port
  queue : List Frame
  enqueued : Word
  full : Word
  pool : Word
  sent : Word
  stale : Word
  purged : Word
  delivered : Word
  dropped : Word
  egress : Word
  deriving DecidableEq, Repr

/-- What a purge found named for its tenant, and the counter advance at which it was taken (R88, log entry 61). -/
structure Purge where
  tenant : Tenant
  moment : Nat
  ports : List Port
  channels : List Channel
  deriving DecidableEq, Repr

/-- The Port and Queue Unit. `free` is the count of free cells (R72), `purges` the purges last taken at one moment, the
latest first (R88, log entry 61). -/
structure Pqu where
  ports : Vector PortEntry 6
  channels : Vector ChannelEntry 64
  free : Nat
  refused : Vector Word 8
  notAdmitted : Vector Word 8
  purges : List Purge
  deriving DecidableEq, Repr

/-- R65. -/
def PortEntry.reset : PortEntry where
  tenant := none
  defaultChannel := 0
  ingress := 0
  malformed := 0
  unassigned := 0
  egress := 0
  egressDiscard := 0

/-- R68: channels 0 to 62. -/
def ChannelEntry.reset : ChannelEntry where
  owner := none
  priority := 3
  limit := 512
  maxAge := 0
  egressPort := none
  queue := []
  enqueued := 0
  full := 0
  pool := 0
  sent := 0
  stale := 0
  purged := 0
  delivered := 0
  dropped := 0
  egress := 0

/-- R68: channel 63. -/
def ChannelEntry.reset63 : ChannelEntry := { ChannelEntry.reset with priority := 0, limit := 1 }

/-- R80. -/
def Pqu.reset : Pqu where
  ports := Vector.replicate 6 .reset
  channels := (Vector.replicate 64 ChannelEntry.reset).set 63 ChannelEntry.reset63
  free := 8192
  refused := Vector.replicate 8 0
  notAdmitted := Vector.replicate 8 0
  purges := []

/-! ### Share Computer (chapters 5 and 6) -/

/-- An entry of the Contract Table (R81). -/
structure Contract where
  state : TenantState
  committed : Nat
  weight : Nat
  peak : Nat
  requirement : TimingClass
  verdict : Option FlagIx
  debtOut : Nat
  debtIn : Nat
  deriving DecidableEq, Repr

/-- The last grants and demands of a tenant (R104). -/
structure LastShare where
  grantOut : Nat
  grantIn : Nat
  demandOut : Nat
  demandIn : Nat
  deriving DecidableEq, Repr

/-- The grant and the target of a tenant that took slots in a plan (R109). -/
structure PlanShare where
  tenant : Tenant
  grant : Nat
  target : Nat
  deriving DecidableEq, Repr

/-- An outbound plan: a run list for each carrier for which one was made, and the tenants that took slots (R109). The
slot positions of a tenant are those its runs give. -/
structure OutPlan where
  runs : PerCarrier (Option (List Run))
  shares : List PlanShare
  deriving DecidableEq, Repr

/-- An inbound plan: edition, run lists and the recorded profile of each carrier (R110, R111). -/
structure InPlan where
  edition : Word
  runs : PerCarrier (Option (List Run))
  profile : PerCarrier Profile
  deriving DecidableEq, Repr

/-- The Share Computer (R113). -/
structure Shc where
  contracts : Vector Contract 8
  demand : Vector (BitVec 16) 8
  last : Vector LastShare 8
  pointerOut : Fin 8
  pointerIn : Fin 8
  nextPlan : Option OutPlan
  currentPlan : Option OutPlan
  history : List InPlan
  deriving DecidableEq, Repr

/-- R81. -/
def Contract.reset : Contract where
  state := .vacant
  committed := 0
  weight := 1
  peak := 114688
  requirement := .none
  verdict := none
  debtOut := 0
  debtIn := 0

/-- R113. -/
def Shc.reset : Shc where
  contracts := Vector.replicate 8 .reset
  demand := Vector.replicate 8 0
  last := Vector.replicate 8 { grantOut := 0, grantIn := 0, demandOut := 0, demandIn := 0 }
  pointerOut := 0
  pointerIn := 0
  nextPlan := none
  currentPlan := none
  history := []

/-! ### Slot Filler and Reassembler (chapter 7) -/

/-- An outbound stream record (R115): the channel whose head frame is in progress with the bytes still to be written,
and the last channel served at each priority. -/
structure OutStream where
  inProgress : Option (Channel × Nat)
  lastServed : Vector Channel 4
  deriving DecidableEq, Repr

/-- A partial inbound frame (R121). Its cells are one for each 64 bytes received, the last one perhaps part full. -/
structure PartialFrame where
  channel : Channel
  length : Nat
  bytes : List Byte
  deriving DecidableEq, Repr

/-- An inbound stream record (R121). -/
inductive InStream where
  | hunting
  | collecting (frame : Option PartialFrame)
  deriving DecidableEq, Repr

/-- An inbound slot as the framer hands it on (R32). -/
structure InSlot where
  good : Bool
  owner : Byte
  carry : Nat
  payload : List Byte
  deriving DecidableEq, Repr

/-- An inbound superframe as the framer hands it on (R32), with its arrival time and the residence time of its header
for the Test Runner (R177). -/
structure InSuperframe where
  far : Word
  profile : Byte
  edition : Word
  slots : List InSlot
  t4 : Stamp
  residence : Word
  deriving DecidableEq, Repr

/-- What the Reassembler keeps for one carrier (R122). -/
structure RasCarrier where
  last : Option Word
  planMiss : Word
  profileMiss : Word
  late : Word
  deriving DecidableEq, Repr

/-- The Reassembler (R121, R122, R124). `waiting` is the waiting superframe of carrier B with the counter advance at its
handing over. `judgedLost` holds the numbers of carrier A's superframes judged lost that carrier A has not passed
since. -/
structure Ras where
  streams : Vector InStream 8
  carriers : PerCarrier RasCarrier
  waiting : Option (InSuperframe × Nat)
  judgedLost : List Word
  deriving DecidableEq, Repr

/-- R115. -/
def OutStream.reset : OutStream := { inProgress := none, lastServed := Vector.replicate 4 62 }

/-- R122. -/
def RasCarrier.reset : RasCarrier := { last := none, planMiss := 0, profileMiss := 0, late := 0 }

/-- R121, R122. -/
def Ras.reset : Ras where
  streams := Vector.replicate 8 .hunting
  carriers := { a := .reset, b := .reset }
  waiting := none
  judgedLost := []

/-! ### Time Base (chapter 8) -/

/-- A PPS output (R135): its setting record, the counter advance at its last pulse (the guard) and its pin. -/
structure PpsOutput where
  enable : Bool
  offset : Int
  squelch : TimingClass
  lastPulse : Option Nat
  high : Bool
  deriving DecidableEq, Repr

/-- The Time Base. `fraction` counts 1/65,536 ns and `residue` 10^-12 of that (R129). `advance` is the counter advance
since power-on reset in the residue's unit, in which every interval of counter advance is measured. `startAdvance`
is its value at the start of the superframe in progress, `stepAt` its value at the last step in it (R27), and
`profileDone` and `planDone` say whether its profile point and plan point have been taken (R28). `starting` says that
the start of the next superframe has been reached and its SUPERFRAME_START not yet taken. -/
structure Tbs where
  sec : Seconds
  ns : Nat
  fraction : Nat
  residue : Nat
  rate : Int
  superframe : Word
  advance : Nat
  startAdvance : Nat
  profileDone : Bool
  planDone : Bool
  stepAt : Option Nat
  starting : Bool
  lastCapture : Option (Stamp × Nat)
  pps : Vector PpsOutput 2
  deriving DecidableEq, Repr

/-- R135, R141. -/
def PpsOutput.reset : PpsOutput :=
  { enable := false, offset := 0, squelch := .frequency, lastPulse := none, high := false }

/-- R141. -/
def Tbs.reset : Tbs where
  sec := 0
  ns := 0
  fraction := 0
  residue := 0
  rate := 0
  superframe := 0
  advance := 0
  startAdvance := 0
  profileDone := false
  planDone := false
  stepAt := none
  starting := false
  lastCapture := none
  pps := Vector.replicate 2 .reset

/-! ### Timing Servo (chapter 9) -/

/-- A source record (R142); the candidates stand in `Tsv`. The priority OFF is none. -/
structure SourceRecord where
  priority : Option (Fin 3)
  qualified : Bool
  withSample : Nat
  withoutSample : Nat
  deriving DecidableEq, Repr

/-- The candidate exchange of a link source (R146): its offset and its mean path delay. -/
structure LinkCandidate where
  theta : Int
  pathDelay : Int
  deriving DecidableEq, Repr

/-- The pending GNSS label (R149): its value and the sheet to answer, none once the sheet has left the held-sheets list
(R15). -/
structure PendingLabel where
  value : Seconds
  sheet : Option SheetIx
  deriving DecidableEq, Repr

/-- The parameters of TIMING_SET other than the priorities (section 9.7). -/
structure ServoParams where
  lockWindow : Nat
  stepThreshold : Nat
  holdoverLimit : Nat
  kp : Nat
  ki : Nat
  cableDelay : Nat
  manualRate : Int
  deriving DecidableEq, Repr

/-- The Timing Servo (R160). `holdoverSince` is the counter advance at entry to HOLDOVER, none while the elapsed time
is 0 outside holdover (R153). `lastMark` is the counter advance at the last whole-second mark taken (R143). -/
structure Tsv where
  gnss : SourceRecord
  linkA : SourceRecord
  linkB : SourceRecord
  gnssCandidate : Option Stamp
  linkCandidates : PerCarrier (Option LinkCandidate)
  state : TimingState
  timingClass : TimingClass
  selected : Option Source
  lockCount : Nat
  outCount : Nat
  integral : Int
  history : List Int
  holdoverSince : Option Nat
  lastTheta : Int
  label : Option PendingLabel
  lastMark : Option Nat
  params : ServoParams
  deriving DecidableEq, Repr

/-- R147: disqualified, both counts 0. -/
def SourceRecord.reset (priority : Option (Fin 3)) : SourceRecord :=
  { priority := priority, qualified := false, withSample := 0, withoutSample := 0 }

/-- Section 9.7. -/
def ServoParams.reset : ServoParams where
  lockWindow := 100
  stepThreshold := 1000
  holdoverLimit := 900
  kp := 1
  ki := 4
  cableDelay := 0
  manualRate := 0

/-- R142, R160. -/
def Tsv.reset : Tsv where
  gnss := .reset (some 0)
  linkA := .reset (some 1)
  linkB := .reset (some 2)
  gnssCandidate := none
  linkCandidates := { a := none, b := none }
  state := .freerun
  timingClass := .none
  selected := none
  lockCount := 0
  outCount := 0
  integral := 0
  history := []
  holdoverSince := none
  lastTheta := 0
  label := none
  lastMark := none
  params := .reset

/-! ### Test Runner (chapter 10) -/

/-- A flag of the Verdict Register (R162). -/
structure Verdict where
  value : VerdictValue
  writer : Option Writer
  superframe : Option Word
  deriving DecidableEq, Repr

/-- The parameters of a test as clamped (R164). -/
inductive TestParams where
  | sweep (carrier : Carrier) (decimation : Nat) (address : BitVec 64) (length : Nat) (wrap : Bool)
      (flag : Option FlagIx) (limit : Int)
  | loopBerOut (carrier : Carrier) (profile : Profile) (duration : Nat) (flag : Option FlagIx) (limit : Nat)
  | loopBerIn (carrier : Carrier) (k : Nat) (duration : Nat) (flag : Option FlagIx) (limit : Nat)
  | delayCal (carrier : Carrier) (profile : Profile) (flag : Option FlagIx) (limit : Nat)
  | timeCheck (carrier : Carrier) (seconds : Nat) (flag : Option FlagIx) (limit : Nat)
  deriving DecidableEq, Repr

/-- A test record (R164). -/
structure TestRecord where
  sheet : SheetIx
  params : TestParams
  clamped : Bool
  deriving DecidableEq, Repr

/-- An entry of a sent record (R171). `pattern` is the state of the pattern at the superframe's first pattern bit. -/
structure SentEntry where
  superframe : Word
  pattern : BitVec 23
  payload : Nat
  positions : List Nat
  echoed : List Nat
  deriving DecidableEq, Repr

/-- What a SWEEP keeps (R173). `nextSample` is the superframe at whose start the next sample falls due. The counts of samples,
wraps and write errors are as wide as their answer words, and wrap (log entry 69). -/
structure SweepData where
  nextSample : Word
  index : Nat
  wraps : Word
  written : Word
  peak : Option (Int × Nat)
  writeErrors : Word
  deriving DecidableEq, Repr

/-- What a BER test keeps (R171, R172, R176). The counts of bits are 64-bit. -/
structure BerData where
  reference : Profile
  pattern : BitVec 23
  sent : List SentEntry
  superframes : Word
  bits : BitVec 64
  errors : BitVec 64
  lost : Word
  deriving DecidableEq, Repr

/-- What a DELAY_CAL keeps (R177). `lastStep` is the superframe in progress at the last step applied while it ran. -/
structure DelayData where
  countP : Nat
  leastP : Option Int
  count0 : Nat
  least0 : Option Int
  passedOver : Word
  result : Option Int
  lastStep : Option Word
  deriving DecidableEq, Repr

/-- What a TIME_CHECK keeps (R179). `begun` says that the first second's end has been passed over. -/
structure CheckData where
  begun : Bool
  counted : Nat
  pairs : Nat
  sum : Int
  least : Int
  greatest : Int
  deriving DecidableEq, Repr

/-- The working data of the running test. -/
inductive RunData where
  | sweep (d : SweepData)
  | ber (d : BerData)
  | delay (d : DelayData)
  | check (d : CheckData)
  deriving DecidableEq, Repr

/-- The running test: its record, its start superframe and whether its loop is acknowledged (R165, R170). -/
structure Running where
  record : TestRecord
  start : Word
  acknowledged : Bool
  data : RunData
  deriving DecidableEq, Repr

/-- A test-slot requirement (R98). -/
inductive Requirement where
  | none
  | slots (k : Nat)
  | whole
  deriving DecidableEq, Repr

/-- What a test holds on a carrier besides its pin (R166). -/
structure Holding where
  requirement : Requirement
  echo : Bool
  deriving DecidableEq, Repr

/-- The Test Runner (R180). -/
structure Tru where
  verdicts : Vector Verdict 16
  queue : List TestRecord
  running : Option Running
  holdings : PerCarrier Holding
  deriving DecidableEq, Repr

/-- R162. -/
def Verdict.reset : Verdict := { value := .unset, writer := none, superframe := none }

/-- R180: no requirement, loop request NONE. -/
def Holding.reset : Holding := { requirement := .none, echo := false }

/-- R180. -/
def Tru.reset : Tru where
  verdicts := Vector.replicate 16 .reset
  queue := []
  running := none
  holdings := { a := .reset, b := .reset }

/-! ### Phase Controller (chapter 11) -/

/-- The phase record (R181). -/
structure Phc where
  phase : Phase
  gateFlag : Option FlagIx
  gateOpen : Bool
  deriving DecidableEq, Repr

/-- R181. -/
def Phc.reset : Phc := { phase := .setup, gateFlag := none, gateOpen := true }

/-! ### The outside -/

/-- An outbound superframe as a framer hands it to its modem (R29): header, slots and the slots' profile. -/
structure OutSuperframe where
  header : List Byte
  slots : List (List Byte)
  profile : Profile
  deriving DecidableEq, Repr

/-- What the part gives to the outside. -/
inductive Output where
  /-- a message-signalled interrupt (R23) -/
  | interrupt
  /-- the value of a register read (R191) -/
  | registerRead (value : Word)
  /-- a superframe handed to a modem (R29) -/
  | superframe (carrier : Carrier) (sent : OutSuperframe)
  /-- a frame leaving a sector port (R67) -/
  | portFrame (port : Port) (bytes : List Byte)
  deriving DecidableEq, Repr

/-- The host's memory, its PCIe configuration of the part and the links of the sector ports. -/
structure World where
  mem : List Host.Cell
  busMaster : Bool
  interrupts : Bool
  links : Vector Bool 6
  deriving DecidableEq, Repr

/-- Nothing listed in memory; bus mastering and interrupts enabled, every link UP (log entries 6, 7 and 8). -/
def World.reset : World where
  mem := []
  busMaster := true
  interrupts := true
  links := Vector.replicate 6 true

/-! ### The whole part -/

/-- The part's state: its twelve blocks, the outside it reads and writes, the outputs given so far (oldest first), the
part's own steps that have fallen due and not been taken, the count the free values are drawn by, and the queue of
commands that are waiting. -/
structure State where
  shi : Shi
  cfr : PerCarrier Framer
  lau : PerCarrier Adaptation
  pqu : Pqu
  shc : Shc
  slf : Vector OutStream 8
  ras : Ras
  tbs : Tbs
  tsv : Tsv
  tru : Tru
  phc : Phc
  world : World
  outputs : List Output
  due : List Instr
  openCount : Nat
  pending : List Instr
  deriving DecidableEq, Repr

/-- The part right after power-on reset, carrier B fitted (log entry 9), with no command waiting. -/
def State.reset : State where
  shi := .reset true
  cfr := { a := .reset, b := .reset }
  lau := { a := .reset, b := .reset }
  pqu := .reset
  shc := .reset
  slf := Vector.replicate 8 .reset
  ras := .reset
  tbs := .reset
  tsv := .reset
  tru := .reset
  phc := .reset
  world := .reset
  outputs := []
  due := []
  openCount := 0
  pending := []

/-- Why the part could stop with a fault: never. The manual gives every command its effect in every state, so no
constructor is needed and no command faults. -/
inductive Fault where
  deriving DecidableEq, Repr

/-- Why the model could refuse a command. -/
inductive Refusal where
  /-- a command without a meaning, named by its row's mnemonic: raised by no command of this model. Safe. -/
  | notModelled (mnemonic : String)
  deriving DecidableEq, Repr

end Sys2Proof.Machine
end

