-- ==== Sys2Proof/Machine/Ops.lean ====
section
/-! DEFINITION. The named operations on the state: reading and replacing one block or one table entry. -/

namespace Sys2Proof.Machine

/-! ### One value for each carrier, and tables -/

/-- The value of one carrier. -/
def PerCarrier.get {α : Type} (p : PerCarrier α) : Carrier → α
  | .a => p.a
  | .b => p.b

/-- Replaces the value of one carrier. -/
def PerCarrier.modify {α : Type} (p : PerCarrier α) (c : Carrier) (f : α → α) : PerCarrier α :=
  match c with
  | .a => { p with a := f p.a }
  | .b => { p with b := f p.b }

/-- Replaces one entry of a table. -/
def tableModify {α : Type} {n : Nat} (v : Vector α n) (i : Fin n) (f : α → α) : Vector α n :=
  v.set i.val (f v[i]) i.isLt

/-- Replaces every entry of a table. -/
def tableMap {α β : Type} {n : Nat} (f : Fin n → α → β) (v : Vector α n) : Vector β n :=
  Vector.ofFn fun i => f i v[i]

/-- The indices of a table in rising order. -/
def allTenants : List Tenant := [0, 1, 2, 3, 4, 5, 6, 7]

/-- The ports in rising order. -/
def allPorts : List Port := [0, 1, 2, 3, 4, 5]

/-- The channels 0 to 62 in rising order: all but the part's own channel 63 (section 4.2). -/
def hostChannels : List Channel := (List.finRange 64).filter fun ch => ch.val < 63

/-- All 64 channels in rising order. -/
def allChannels : List Channel := List.finRange 64

/-! ### One block of the state -/

def State.onShi (f : Shi → Shi) (s : State) : State := { s with shi := f s.shi }
def State.onFramer (c : Carrier) (f : Framer → Framer) (s : State) : State := { s with cfr := s.cfr.modify c f }
def State.onAdapt (c : Carrier) (f : Adaptation → Adaptation) (s : State) : State := { s with lau := s.lau.modify c f }
def State.onPqu (f : Pqu → Pqu) (s : State) : State := { s with pqu := f s.pqu }
def State.onShc (f : Shc → Shc) (s : State) : State := { s with shc := f s.shc }
def State.onOutStream (t : Tenant) (f : OutStream → OutStream) (s : State) : State :=
  { s with slf := tableModify s.slf t f }
def State.onRas (f : Ras → Ras) (s : State) : State := { s with ras := f s.ras }
def State.onTbs (f : Tbs → Tbs) (s : State) : State := { s with tbs := f s.tbs }
def State.onTsv (f : Tsv → Tsv) (s : State) : State := { s with tsv := f s.tsv }
def State.onTru (f : Tru → Tru) (s : State) : State := { s with tru := f s.tru }
def State.onPhc (f : Phc → Phc) (s : State) : State := { s with phc := f s.phc }
def State.onWorld (f : World → World) (s : State) : State := { s with world := f s.world }

/-! ### One entry of a table -/

def State.onChannel (ch : Channel) (f : ChannelEntry → ChannelEntry) : State → State :=
  State.onPqu fun q => { q with channels := tableModify q.channels ch f }
def State.onPort (p : Port) (f : PortEntry → PortEntry) : State → State :=
  State.onPqu fun q => { q with ports := tableModify q.ports p f }
def State.onContract (t : Tenant) (f : Contract → Contract) : State → State :=
  State.onShc fun h => { h with contracts := tableModify h.contracts t f }
def State.onInStream (t : Tenant) (f : InStream → InStream) : State → State :=
  State.onRas fun r => { r with streams := tableModify r.streams t f }
def State.onRasCarrier (c : Carrier) (f : RasCarrier → RasCarrier) : State → State :=
  State.onRas fun r => { r with carriers := r.carriers.modify c f }

def State.contract (s : State) (t : Tenant) : Contract := s.shc.contracts[t]
def State.channel (s : State) (ch : Channel) : ChannelEntry := s.pqu.channels[ch]
def State.port (s : State) (p : Port) : PortEntry := s.pqu.ports[p]
def State.verdict (s : State) (f : FlagIx) : VerdictValue := s.tru.verdicts[f].value
def State.inStream (s : State) (t : Tenant) : InStream := s.ras.streams[t]
def State.outStream (s : State) (t : Tenant) : OutStream := s.slf[t]

/-! ### Outputs, free values, and the part's own steps -/

/-- Gives something to the outside. -/
def State.emit (o : Output) (s : State) : State := { s with outputs := s.outputs ++ [o] }

/-- Draws the next free value: the count goes on, so that no two draws are the same (Config). -/
def State.draw (s : State) : State := { s with openCount := s.openCount + 1 }

/-- A step of the part falls due. -/
def State.fallDue (c : Instr) (s : State) : State := { s with due := s.due ++ [c] }

/-- A command without what the outside brings with it: the form in which a step of the part falls due. -/
def bareCommand : Instr → Instr
  | .attentionWrite _ v => .attentionWrite [] v
  | .softRestart _ => .softRestart []
  | .scan _ => .scan []
  | .writeAnswer _ => .writeAnswer []
  | .busError _ w n => .busError [] w n
  | .standingRewrite _ i => .standingRewrite [] i
  | .superframeStart _ => .superframeStart []
  | .drainEnd _ c => .drainEnd [] c
  | .profilePoint _ => .profilePoint []
  | .planPoint _ => .planPoint []
  | .delivery _ c d => .delivery [] c d
  | .miss _ c => .miss [] c
  | .carrierBWaitExpiry _ => .carrierBWaitExpiry []
  | .arrival _ p bytes good => .arrival [] p bytes good
  | .aging _ => .aging []
  | .halfSecondMark _ => .halfSecondMark []
  | .wholeSecondMark _ => .wholeSecondMark []
  | .timeCheckCompletion _ => .timeCheckCompletion []
  | .holdoverLimitExpiry _ => .holdoverLimitExpiry []
  | .gnssEdge _ => .gnssEdge []
  | .ppsPulseInstant _ o => .ppsPulseInstant [] o
  | .ppsPulseEnd _ o => .ppsPulseEnd [] o
  | .sweepSample _ _ => .sweepSample [] true
  | .noLoop _ => .noLoop []
  | .berDurationEnd _ => .berDurationEnd []
  | .delayCalTimeout _ => .delayCalTimeout []
  | .powerOnReset b => .powerOnReset b
  | .sheetBaseHiWrite be v => .sheetBaseHiWrite be v
  | .sheetBaseLoWrite be v => .sheetBaseLoWrite be v
  | .eventsRead be => .eventsRead be
  | .eventMaskWrite be v => .eventMaskWrite be v
  | .restartWrite be v => .restartWrite be v
  | .registerWriteIgnored o v => .registerWriteIgnored o v
  | .phase i p => .phase i p
  | .carrierStart i p => .carrierStart i p
  | .carrierStop i p => .carrierStop i p
  | .profileSet i p => .profileSet i p
  | .portSet i p => .portSet i p
  | .channelSet i p => .channelSet i p
  | .tenantSet i p => .tenantSet i p
  | .tenantRetire i p => .tenantRetire i p
  | .timingSet i p => .timingSet i p
  | .ppsSet i p => .ppsSet i p
  | .gnssLabel i p => .gnssLabel i p
  | .verdictSet i p => .verdictSet i p
  | .test i p => .test i p
  | .testStop i p => .testStop i p
  | .standing i p => .standing i p
  | .read i p => .read i p

/-- A step that is taken is due no longer. -/
def State.settle (c : Instr) (s : State) : State := { s with due := s.due.erase (bareCommand c) }

/-- An answer handed to the Sheet Interface (R13); its writing falls due. -/
def State.answer (sheet : SheetIx) (code : AnswerCode) (words : List Word) (s : State) : State :=
  (s.onShi fun h => { h with answers := h.answers ++ [⟨sheet, code, words, false⟩] }).fallDue (.writeAnswer [])

/-! ### Small arithmetic -/

/-- Units of counter advance in a nanosecond: 65,536 fractions of 10^12 residues (R129). -/
def unitsPerNs : Nat := 65536 * 1000000000000

/-- The units of advance of a number of nanoseconds. -/
def nsUnits (ns : Nat) : Nat := ns * unitsPerNs

/-- The number of cells a frame of `n` bytes occupies: ceil(n / 64) (section 4.3). -/
def cellsOf (n : Nat) : Nat := (n + 63) / 64

/-- A quantity clamped to a range (convention of R158, R164). -/
def clampNat (low high n : Nat) : Nat := max low (min high n)

/-- A signed quantity clamped to a range. -/
def clampInt (low high n : Int) : Int := max low (min high n)

/-- `later` is `earlier` or lies after it: differences of superframe numbers are taken modulo 2^32 (convention (4)). -/
def atOrAfter (later earlier : Word) : Bool := decide ((later - earlier).toNat < 2147483648)

/-- The difference of two stamps in nanoseconds, the seconds counted in (R145, R177). -/
def stampDiff (x y : Stamp) : Int :=
  ((x.sec.toNat : Int) - (y.sec.toNat : Int)) * 1000000000 + ((x.ns : Int) - (y.ns : Int))

/-- The Time Counter as its readers take it: seconds and nanoseconds (section 8.1). -/
def State.now (s : State) : Stamp := { sec := s.tbs.sec, ns := s.tbs.ns }

/-- The superframe now starting, or the one in progress when none is (R26). -/
def State.nowStarting (s : State) : Word :=
  if s.tbs.starting then s.tbs.superframe + 1 else s.tbs.superframe

end Sys2Proof.Machine
end

