-- ==== Sys2Proof/Machine/Flags.lean ====
section
/-! DEFINITION. The event summary and the interrupt (section 1.8). -/

namespace Sys2Proof.Machine

/-- The bit of an event kind in EVENTS and EVENT_MASK (section 12.2). -/
def EventKind.bit : EventKind → Word
  | .answer => 0x01
  | .carrier => 0x02
  | .profile => 0x04
  | .timing => 0x08
  | .tenant => 0x10
  | .verdict => 0x20
  | .pool => 0x40
  | .sheetFault => 0x80

/-- A kind is present in the event summary (R22). -/
def State.hasEvent (s : State) (k : EventKind) : Bool := s.shi.events &&& k.bit != 0

/-- The masked summary (R23): bits 8 to 31 of EVENT_MASK enable no kind (R191). -/
def maskedSummary (h : Shi) : Word := h.events &&& h.mask &&& 0xFF

/-- One interrupt is sent when the masked summary has gone from empty to non-empty, unless the host has disabled
interrupts or bus mastering (R23). -/
def State.interruptAfter (before : Word) (s : State) : State :=
  if before = 0 ∧ maskedSummary s.shi ≠ 0 ∧ s.world.interrupts ∧ s.world.busMaster then s.emit .interrupt else s

/-- A kind is added to the event summary (R22, R23). -/
def State.addEvent (k : EventKind) (s : State) : State :=
  (s.onShi fun h => { h with events := h.events ||| k.bit }).interruptAfter (maskedSummary s.shi)

/-- EVENT_MASK takes a value (R23). -/
def State.setMask (v : Word) (s : State) : State :=
  (s.onShi fun h => { h with mask := v }).interruptAfter (maskedSummary s.shi)

/-- The kinds an EVENTS read returned are cleared (R22). -/
def State.clearEvents : State → State := State.onShi fun h => { h with events := 0 }

end Sys2Proof.Machine
end

