-- ==== Sys2Proof/Machine/Bytes.lean ====
section
/-! DEFINITION. Byte orders, the header and slot check, the test pattern (chapter 12, R171). -/

namespace Sys2Proof.Machine

/-- The `n` bytes of a value, most significant first: records on the carriers and the sector ports (chapter 12). -/
def bigEndian : Nat → Nat → List Byte
  | 0, _ => []
  | n + 1, v => BitVec.ofNat 8 (v / 256 ^ n) :: bigEndian n v

/-- The value of bytes sent most significant first. -/
def readBig (bytes : List Byte) : Nat := bytes.foldl (fun v b => v * 256 + b.toNat) 0

/-- The bytes of a word in host memory, least significant first (chapter 12). -/
def wordBytes (w : Word) : List Byte := [w.setWidth 8, (w >>> (8 : Nat)).setWidth 8, (w >>> (16 : Nat)).setWidth 8, (w >>> (24 : Nat)).setWidth 8]

/-- A word of four bytes given least significant first. -/
def wordOfBytes (b0 b1 b2 b3 : Byte) : Word := b3 ++ b2 ++ b1 ++ b0

/-- A word of four byte-wide fields. -/
def packBytes (b0 b1 b2 b3 : Nat) : Word :=
  wordOfBytes (BitVec.ofNat 8 b0) (BitVec.ofNat 8 b1) (BitVec.ofNat 8 b2) (BitVec.ofNat 8 b3)

/-- A word of two halves. -/
def packHalves (low high : Nat) : Word := (BitVec.ofNat 16 high) ++ (BitVec.ofNat 16 low)

/-- The low and the high word of a 64-bit quantity. -/
def lowHigh (v : BitVec 64) : List Word := [v.setWidth 32, (v >>> 32).setWidth 32]

/-- A signed quantity as a word (section 12.1: two's complement). -/
def signedWord (v : Int) : Word := BitVec.ofInt 32 v

/-- One bit of the check: generator x^16 + x^12 + x^5 + 1 (section 12.6). -/
def checkShift : Nat → BitVec 16 → BitVec 16
  | 0, r => r
  | n + 1, r => checkShift n (if r.msb then (r <<< 1) ^^^ 0x1021 else r <<< 1)

/-- The header or slot check of bytes: register from FFFFh, most significant bit first, no final exclusive-or (section
12.6). -/
def checkOf (bytes : List Byte) : BitVec 16 :=
  bytes.foldl (fun (r : BitVec 16) (b : Byte) => checkShift 8 (r ^^^ (b.setWidth 16 <<< (8 : Nat)))) 0xFFFF

/-- Bytes with their check appended, high byte first (section 12.6). -/
def withCheck (bytes : List Byte) : List Byte := bytes ++ bigEndian 2 (checkOf bytes).toNat

/-- The next bit of the test pattern and the state after it. The state is the next 23 bits, the first of them highest;
each new bit is the exclusive-or of those 18 and 23 places before it (R171). -/
def patternBit (w : BitVec 23) : Bool × BitVec 23 :=
  (w.getMsbD 0, (w <<< 1) ||| (if w.getMsbD 0 ^^ w.getMsbD 5 then 1 else 0))

/-- The state at a test's start: 23 ones (R171). -/
def patternStart : BitVec 23 := BitVec.allOnes 23

/-- The next pattern bits as a number, first bit highest, and the state after them. -/
def patternBits : Nat → BitVec 23 → Nat → Nat × BitVec 23
  | 0, w, v => (v, w)
  | n + 1, w, v => patternBits n (patternBit w).2 (2 * v + (if (patternBit w).1 then 1 else 0))

/-- The next `n` pattern bytes, each byte's bits most significant first (section 12.6), and the state after them. -/
def patternBytes : Nat → BitVec 23 → List Byte × BitVec 23
  | 0, w => ([], w)
  | n + 1, w =>
    let (v, w') := patternBits 8 w 0
    let (rest, w'') := patternBytes n w'
    (BitVec.ofNat 8 v :: rest, w'')

/-- The number of bits in which two bytes differ. -/
def bitsDiffering (x y : Byte) : Nat :=
  (List.range 8).countP fun i => (x ^^^ y).getLsbD i

end Sys2Proof.Machine
end

