-- ==== Sys2Proof/Machine/HostMemory.lean ====
section
/-! DEFINITION. The host's memory: a list of (address, byte) pairs in one canonical form, addresses strictly rising and
no byte equal to what an unlisted address reads as. -/

namespace Sys2Proof.Machine

/-- What an address that nothing has written reads as (log entry 6). -/
def unlistedByte : Byte := 0

/-- Reads one byte. -/
def readByte (mem : List Host.Cell) (address : Nat) : Byte :=
  match mem with
  | [] => unlistedByte
  | (a, b) :: rest => if a = address then b else readByte rest address

/-- A cell in front of a list, unless it holds what an unlisted address reads as. -/
def consCell (address : Nat) (value : Byte) (mem : List Host.Cell) : List Host.Cell :=
  if value = unlistedByte then mem else (address, value) :: mem

/-- Writes one byte and keeps the canonical form. -/
def writeByte (address : Nat) (value : Byte) : List Host.Cell → List Host.Cell
  | [] => consCell address value []
  | (a, b) :: rest =>
    if address < a then consCell address value ((a, b) :: rest)
    else if a = address then consCell address value rest
    else (a, b) :: writeByte address value rest

/-- Writes bytes at rising addresses, which wrap at 2^64 (log entry 10). -/
def writeBytes (address : BitVec 64) : List Byte → List Host.Cell → List Host.Cell
  | [], mem => mem
  | b :: rest, mem => writeBytes (address + 1) rest (writeByte address.toNat b mem)

/-- Reads a word, least significant byte first. -/
def readWord (mem : List Host.Cell) (address : BitVec 64) : Word :=
  wordOfBytes (readByte mem address.toNat) (readByte mem (address + 1).toNat) (readByte mem (address + 2).toNat)
    (readByte mem (address + 3).toNat)

/-- Reads words at rising addresses. -/
def readWords (mem : List Host.Cell) (address : BitVec 64) : Nat → List Word
  | 0 => []
  | n + 1 => readWord mem address :: readWords mem (address + 4) n

/-- The canonical form holds: every address is above `low`, addresses rise, no byte is the unlisted one. -/
def memoryWfFrom (low : Option Nat) : List Host.Cell → Bool
  | [] => true
  | (a, b) :: rest =>
    (match low with
     | none => true
     | some l => decide (l < a))
    && b != unlistedByte && memoryWfFrom (some a) rest

/-- The canonical form of the host's memory. -/
def memoryWf (mem : List Host.Cell) : Bool := memoryWfFrom none mem

/-- Where a byte of a sheet lies: the base plus 512 for each sheet (section 1.2, R9). -/
def sheetAddress (base : BitVec 64) (sheet : SheetIx) (offset : Nat) : BitVec 64 :=
  base + BitVec.ofNat 64 (512 * sheet.val + offset)

end Sys2Proof.Machine
end

