-- ==== Sys2Proof/Machine/Operands.lean ====
section
/-! DEFINITION. The forms of operands: register accesses (R191), the codes of section 12.1, order parameters (R190). -/

namespace Sys2Proof.Machine

/-! ### Register accesses -/

/-- The byte lanes of a register access as a mask. -/
def laneMask (be : BitVec 4) : Word :=
  (if be.getLsbD 3 then 0xFF else (0 : Byte)) ++ (if be.getLsbD 2 then 0xFF else (0 : Byte))
    ++ (if be.getLsbD 1 then 0xFF else (0 : Byte)) ++ (if be.getLsbD 0 then 0xFF else (0 : Byte))

/-- A narrow access: the addressed bytes of a value, and 0 in the others (R191). -/
def laneValue (be : BitVec 4) (value : Word) : Word := value &&& laneMask be

/-! ### Codes (section 12.1) -/

def Carrier.code : Carrier → Nat
  | .a => 0
  | .b => 1

def Phase.code : Phase → Nat
  | .setup => 0
  | .align => 1
  | .commission => 2
  | .service => 3
  | .windDown => 4

def TimingClass.code : TimingClass → Nat
  | .none => 0
  | .frequency => 1
  | .phase => 2

/-- NONE < FREQUENCY < PHASE (R81, R157). -/
def TimingClass.atLeast (x y : TimingClass) : Bool := decide (y.code ≤ x.code)

def Source.code : Source → Nat
  | .gnss => 0
  | .linkA => 1
  | .linkB => 2

def VerdictValue.code : VerdictValue → Nat
  | .unset => 0
  | .pass => 1
  | .fail => 2

def TestKind.code : TestKind → Nat
  | .sweep => 1
  | .loopBerOut => 2
  | .loopBerIn => 3
  | .delayCal => 4
  | .timeCheck => 5

/-- The code of a writer, absent 0. -/
def writerCode : Option Writer → Nat
  | none => 0
  | some (.test k) => k.code
  | some .order => 6

def TenantState.code : TenantState → Nat
  | .vacant => 0
  | .pending => 1
  | .admitted => 2
  | .held => 3
  | .retiring => 4

def TxState.code : TxState → Nat
  | .off => 0
  | .starting => 1
  | .running => 2
  | .draining => 3

def RxState.code : RxState → Nat
  | .hunt => 0
  | .verify => 1
  | .sync => 2
  | .flywheel => 3

def TimingState.code : TimingState → Nat
  | .freerun => 0
  | .acquiring => 1
  | .locked => 2
  | .holdover => 3
  | .holdoverSpent => 4

def SlotOwner.code : SlotOwner → Nat
  | .tenant t => t.val
  | .test => 8
  | .idle => 9

def AnswerCode.code : AnswerCode → Nat
  | .done => 1
  | .adjusted => 2
  | .unknownOrder => 3
  | .badParameter => 4
  | .wrongPhase => 5
  | .busy => 6
  | .notReady => 7
  | .noRoom => 8
  | .labelMismatch => 9
  | .passed => 10
  | .failed => 11
  | .completed => 12
  | .stopped => 13
  | .endedProfileChange => 14
  | .endedLinkLoss => 15
  | .noLoop => 16

/-- The order of an order code (section 12.1). -/
def orderOfCode (code : Byte) : Option Order :=
  match code.toNat with
  | 1 => some .phase
  | 2 => some .carrierStart
  | 3 => some .carrierStop
  | 4 => some .profileSet
  | 5 => some .portSet
  | 6 => some .channelSet
  | 7 => some .tenantSet
  | 8 => some .tenantRetire
  | 9 => some .timingSet
  | 10 => some .ppsSet
  | 11 => some .gnssLabel
  | 12 => some .verdictSet
  | 13 => some .test
  | 14 => some .testStop
  | 15 => some .standing
  | 16 => some .read
  | _ => none

/-- The naming part of an order in words (R10). The naming part of TEST is its kind's whole list, which the Test Runner
checks (R12, R164): no word is needed before the order reaches it. -/
def Order.namingWords : Order → Nat
  | .phase => 1
  | .carrierStart => 1
  | .carrierStop => 1
  | .profileSet => 2
  | .portSet => 1
  | .channelSet => 1
  | .tenantSet => 1
  | .tenantRetire => 1
  | .timingSet => 0
  | .ppsSet => 1
  | .gnssLabel => 2
  | .verdictSet => 2
  | .test => 0
  | .testStop => 1
  | .standing => 1
  | .read => 2

/-- The phases at taking of an order (R10). -/
def Order.takenIn (o : Order) (p : Phase) : Bool :=
  match o with
  | .carrierStart => p == .align || p == .commission || p == .service
  | .carrierStop => p != .setup
  | .tenantSet => p != .windDown
  | .phase | .profileSet | .portSet | .channelSet | .tenantRetire | .timingSet | .ppsSet | .gnssLabel | .verdictSet
  | .test | .testStop | .standing | .read => true

/-- The command by which the owner carries out an order. -/
def Order.command (o : Order) (sheet : SheetIx) (params : List Word) : Instr :=
  match o with
  | .phase => .phase sheet params
  | .carrierStart => .carrierStart sheet params
  | .carrierStop => .carrierStop sheet params
  | .profileSet => .profileSet sheet params
  | .portSet => .portSet sheet params
  | .channelSet => .channelSet sheet params
  | .tenantSet => .tenantSet sheet params
  | .tenantRetire => .tenantRetire sheet params
  | .timingSet => .timingSet sheet params
  | .ppsSet => .ppsSet sheet params
  | .gnssLabel => .gnssLabel sheet params
  | .verdictSet => .verdictSet sheet params
  | .test => .test sheet params
  | .testStop => .testStop sheet params
  | .standing => .standing sheet params
  | .read => .read sheet params

/-! ### Parameters (R190) -/

/-- The NONE code of a word (section 12.1). -/
def noneWord : Word := 0xFFFFFFFF

/-- A word naming one of `n` things. -/
def decodeIndex (n : Nat) (w : Word) : Option (Fin n) :=
  if h : w.toNat < n then some ⟨w.toNat, h⟩ else none

/-- A word naming one of `n` things, or NONE. -/
def decodeIndexOrNone (n : Nat) (w : Word) : Option (Option (Fin n)) :=
  if w = noneWord then some none else (decodeIndex n w).map some

/-- A carrier that is fitted (R35, R37, R50, R164). -/
def State.decodeCarrier (s : State) (w : Word) : Option Carrier :=
  match w.toNat with
  | 0 => some .a
  | 1 => if s.shi.carrierBFitted then some .b else none
  | _ => none

def decodePhase (w : Word) : Option Phase :=
  match w.toNat with
  | 0 => some .setup
  | 1 => some .align
  | 2 => some .commission
  | 3 => some .service
  | 4 => some .windDown
  | _ => none

def decodeClass (w : Word) : Option TimingClass :=
  match w.toNat with
  | 0 => some .none
  | 1 => some .frequency
  | 2 => some .phase
  | _ => none

def decodeVerdict (w : Word) : Option VerdictValue :=
  match w.toNat with
  | 0 => some .unset
  | 1 => some .pass
  | 2 => some .fail
  | _ => none

/-- no or yes, OFF or ON, STOP or WRAP: 0 or 1 (section 12.1). -/
def decodeSwitch (w : Word) : Option Bool :=
  match w.toNat with
  | 0 => some false
  | 1 => some true
  | _ => none

/-- A priority of TIMING_SET: 0, 1, 2, or the NONE code for OFF (R190). -/
def decodePriority : Word → Option (Option (Fin 3)) := decodeIndexOrNone 3

/-- A quantity of an unsigned word (R190). -/
def decodeCount (w : Word) : Option Nat := some w.toNat

/-- A quantity of a signed word (R190). -/
def decodeSigned (w : Word) : Option Int := some w.toInt

/-- A quantity refused outside a range. -/
def decodeRange (low high : Nat) (w : Word) : Option Nat :=
  if low ≤ w.toNat ∧ w.toNat ≤ high then some w.toNat else none

def decodeReport (w : Word) : Option ReportKind :=
  match w.toNat with
  | 1 => some .link
  | 2 => some .shares
  | 3 => some .timing
  | 4 => some .verdicts
  | 5 => some .queues
  | _ => none

def decodeTestKind (w : Word) : Option TestKind :=
  match w.toNat with
  | 1 => some .sweep
  | 2 => some .loopBerOut
  | 3 => some .loopBerIn
  | 4 => some .delayCal
  | 5 => some .timeCheck
  | _ => none

/-- The parameter at a place of a partial list: present, it is decoded; absent, the value stays (R12). None where the
word present names nothing the order accepts. -/
def given {α : Type} (params : List Word) (place : Nat) (decode : Word → Option α) (kept : α) : Option α :=
  match params[place]? with
  | none => some kept
  | some w => decode w

/-- The parameter at a place that must be present. -/
def required {α : Type} (params : List Word) (place : Nat) (decode : Word → Option α) : Option α :=
  params[place]?.bind decode

/-- The 64-bit value of a two-word parameter, low word first (R190). -/
def wideParam (params : List Word) (place : Nat) : BitVec 64 :=
  (params[place + 1]?.getD 0) ++ (params[place]?.getD 0)

end Sys2Proof.Machine
end

