-- ==== Sys2Proof/Machine/Adaptation.lean ====
section
/-! DEFINITION. The Link Adaptation Unit (chapter 3). -/

namespace Sys2Proof.Machine

/-- A value added to a quality window, the oldest leaving when 8 are held (section 3.2). -/
def windowAdd (window : List Nat) (v : Nat) : List Nat :=
  (if window.length < 8 then window else window.drop (window.length - 7)) ++ [v]

/-- The quality figure of a window (R55). -/
def qualityFigure (window : List Nat) : Nat := window.sum / window.length

/-- cur: the last committed profile, P0 when none has been committed (section 3.3). -/
def Direction.cur (d : Direction) : Profile := d.committed.getD 0

/-- A verdict index lets through: NONE, or a flag that holds PASS (R49, R84, R181). -/
def State.verdictAllows (s : State) (index : Option FlagIx) : Bool :=
  match index with
  | none => true
  | some f => s.verdict f == .pass

/-- Profile `p` of carrier `c` is admitted (R49). -/
def State.admitted (s : State) (c : Carrier) (p : Profile) : Bool :=
  p == 0 || s.verdictAllows (s.lau.get c).table[p].verdict

/-- The profiles below a number, highest first, and those above it, lowest first. -/
def profilesBelow (p : Profile) : List Profile := (List.finRange 8).reverse.filter fun q => q < p
def profilesAbove (p : Profile) : List Profile := (List.finRange 8).filter fun q => p < q

/-- The next lower admitted profile below `p`, P0 at P0 (R57). -/
def State.nextLower (s : State) (c : Carrier) (p : Profile) : Profile :=
  ((profilesBelow p).find? fun q => s.admitted c q).getD 0

/-- The highest admitted profile below `p` whose down threshold the figure meets or exceeds, or P0 (R57, R58, R62). -/
def State.qualifiedLower (s : State) (c : Carrier) (p : Profile) (figure : Nat) : Profile :=
  ((profilesBelow p).find? fun q =>
    q == 0 || (s.admitted c q && decide ((s.lau.get c).table[q].down ≤ figure))).getD 0

/-- u: the lowest admitted profile above `p` (R59). -/
def State.nextHigher (s : State) (c : Carrier) (p : Profile) : Option Profile :=
  (profilesAbove p).find? fun q => s.admitted c q

/-- SETUP and ALIGN force P0 (R56, R62). -/
def State.forcesP0 (s : State) : Bool := s.phc.phase == .setup || s.phc.phase == .align

/-- What a decision yields: a candidate, if any, and the step-up count after it (R56 to R59). -/
def State.yields (s : State) (c : Carrier) (d : Direction) (fec : Bool) : Option Profile × Nat :=
  let figure := qualityFigure d.window
  if (s.lau.get c).pin.isSome then (none, 0)
  else if s.forcesP0 then (some 0, 0)
  else if fec then (some (s.nextLower c d.cur), 0)
  else if !s.admitted c d.cur then (some (s.qualifiedLower c d.cur figure), 0)
  else if d.cur != 0 && figure < (s.lau.get c).table[d.cur].down then (some (s.qualifiedLower c d.cur figure), 0)
  else
    match s.nextHigher c d.cur with
    | none => (none, 0)
    | some u =>
      if (s.lau.get c).table[u].up ≤ figure then
        if 64 ≤ d.stepUp + 1 then (some u, 0) else (none, d.stepUp + 1)
      else (none, 0)

/-- How a candidate changes the held next profile (R60). -/
def heldNext (cur next : Profile) : Option Profile → Profile
  | none => next
  | some p => if p < cur then (if p < next then p else next) else if cur < p ∧ next = cur then p else next

/-- One decision of a direction (R56, R60). -/
def State.decided (s : State) (c : Carrier) (d : Direction) (fec : Bool) : Direction :=
  let (candidate, count) := s.yields c d fec
  { d with next := heldNext d.cur d.next candidate, stepUp := count }

/-- An inbound report of a carrier (R54). -/
def State.inboundReport (c : Carrier) (snr : Nat) (level : Int) (fecBlocks : Nat) (s : State) : State :=
  s.onAdapt c fun a =>
    { a with
      lastLocal := some ⟨snr, level⟩
      inbound := s.decided c { a.inbound with window := windowAdd a.inbound.window snr } (decide (0 < fecBlocks)) }

/-- An outbound report of a carrier (R53): a far SNR average above 600 is taken as 600 (R193). -/
def State.outboundReport (c : Carrier) (snr : Nat) (fec : Bool) (s : State) : State :=
  s.onAdapt c fun a =>
    { a with outbound := s.decided c { a.outbound with window := windowAdd a.outbound.window (min snr 600) } fec }

/-- The profile the pin gives for superframe `m` (R61). -/
def Pin.outboundFor (pin : Pin) (m : Word) : Profile :=
  if pin.alternation && m.getLsbD 0 then 0 else pin.outbound

/-- The profile a direction commits (R62); `pinned` is what a pin gives. -/
def State.toCommit (s : State) (c : Carrier) (d : Direction) (pinned : Option Profile) : Profile :=
  match pinned with
  | some p => p
  | none =>
    if s.forcesP0 then 0
    else if s.admitted c d.next then d.next
    else s.qualifiedLower c d.next (qualityFigure d.window)

/-- A direction after the commitment of `p` (R62). -/
def Direction.commit (d : Direction) (p : Profile) : Direction :=
  { d with committed := some p, next := p, stepUp := if p = d.cur then d.stepUp else 0 }

/-- The commitment of one carrier for the superframe after the one in progress (R62). -/
def State.commitCarrier (c : Carrier) (s : State) : State :=
  if (s.cfr.get c).tx = .off then s
  else
    let a := s.lau.get c
    let out := s.toCommit c a.outbound (a.pin.map fun p => p.outboundFor (s.tbs.superframe + 1))
    let inb := s.toCommit c a.inbound (a.pin.map fun p => p.inbound)
    let s1 := s.onAdapt c fun a => { a with outbound := a.outbound.commit out, inbound := a.inbound.commit inb }
    let s2 := if out = a.outbound.cur then s1 else s1.addEvent .profile
    if inb = a.inbound.cur then s2 else s2.addEvent .profile

/-- Both step-up counts of a carrier become 0 (R63). -/
def Adaptation.clearCounts (a : Adaptation) : Adaptation :=
  { a with outbound := { a.outbound with stepUp := 0 }, inbound := { a.inbound with stepUp := 0 } }

/-- What entry of a carrier to OFF clears (R64): the pin stays. -/
def Adaptation.clearAtOff (a : Adaptation) : Adaptation :=
  { a with outbound := .reset, inbound := .reset, lastLocal := none }

/-- What a soft restart leaves (R64): the Profile Table. -/
def Adaptation.softRestart (a : Adaptation) : Adaptation := { a.clearAtOff with pin := none }

/-- Some entry P1 to P7 of the table names the flag (R63). -/
def Adaptation.names (a : Adaptation) (f : FlagIx) : Bool :=
  (List.finRange 8).any fun p => p != 0 && a.table[p].verdict == some f

/-- The clamping of an entry's thresholds (R51). -/
def clampThresholds (e : ProfileEntry) : ProfileEntry :=
  let up := clampNat 10 600 e.up
  let down := min e.down 600
  { e with up := up, down := if up ≤ down then up - 10 else down }

/-- The calibrated delay D is written, clamped (R52). -/
def State.writeDelay (c : Carrier) (p : Profile) (d : Int) : State → State :=
  State.onAdapt c fun a =>
    { a with table := tableModify a.table p fun e => { e with delay := some (clampInt (-500000) 500000 d) } }

/-- The calibrated delay of a profile as a header declares it: a number above 7 has none (R145, R193). -/
def State.delayOf (s : State) (c : Carrier) (profile : Nat) : Option Int :=
  if h : profile < 8 then (s.lau.get c).table[(⟨profile, h⟩ : Profile)].delay else none

/-- The slot payload of a profile (R48). -/
def State.payload (s : State) (c : Carrier) (p : Profile) : Nat := (s.lau.get c).table[p].payload

/-- The entry of a Profile Table a PROFILE_SET leaves, before and after clamping (R50, R51). -/
def State.setEntry (c : Carrier) (p : Profile) (new : ProfileEntry) (s : State) : State :=
  let entry := (s.lau.get c).table[p]
  let s1 := s.onAdapt c fun a => { a with table := tableModify a.table p fun _ => new }
  if new.up ≠ entry.up ∨ new.down ≠ entry.down ∨ s1.admitted c p ≠ s.admitted c p then
    s1.onAdapt c Adaptation.clearCounts
  else s1

/-- PROFILE_SET (R50, R51, R63): an order that names P0 changes nothing, whatever follows (log entry 34), and neither does
one that gives no field. -/
def State.profileSet (sheet : SheetIx) (params : List Word) (s : State) : State :=
  match required params 0 s.decodeCarrier, required params 1 (decodeIndex 8) with
  | some c, some p =>
    let entry := (s.lau.get c).table[p]
    if p = 0 ∨ params.length ≤ 2 then s.answer sheet .done []
    else
      match given params 2 decodeCount entry.up, given params 3 decodeCount entry.down,
          given params 4 (decodeIndexOrNone 16) entry.verdict with
      | some up, some down, some verdict =>
        let raw := { entry with up := up, down := down, verdict := verdict }
        (s.setEntry c p (clampThresholds raw)).answer sheet (if clampThresholds raw = raw then .done else .adjusted) []
      | _, _, _ => s.answer sheet .badParameter []
  | _, _ => s.answer sheet .badParameter []

end Sys2Proof.Machine
end

