-- ==== Sys2Proof/Machine/Verdicts.lean ====
section
/-! DEFINITION. Tenant admission and the Verdict Register (sections 5.2, 10.1), and what a verdict change moves. -/

namespace Sys2Proof.Machine

/-- A tenant's state changes: TENANT is added (R95). -/
def State.setTenant (t : Tenant) (st : TenantState) (s : State) : State :=
  (s.onContract t fun k => { k with state := st }).addEvent .tenant

/-- The published timing class meets a tenant's requirement (R84, R86). -/
def State.meets (s : State) (t : Tenant) : Bool := s.tsv.timingClass.atLeast (s.contract t).requirement

/-- An admission event for one tenant (R84). -/
def State.offerAdmission (t : Tenant) (s : State) : State :=
  if (s.contract t).state = .pending ∧ s.phc.phase = .service ∧ s.verdictAllows (s.contract t).verdict then
    s.setTenant t (if s.meets t then .admitted else .held)
  else s

/-- An admission event for every PENDING tenant (R85). -/
def State.admissionEvent (s : State) : State := allTenants.foldl (fun s t => s.offerAdmission t) s

/-- The class comparison of one tenant (R86). -/
def State.compareClass (t : Tenant) (s : State) : State :=
  match (s.contract t).state with
  | .admitted => if s.meets t then s else s.setTenant t .held
  | .held => if s.meets t then s.setTenant t .admitted else s
  | .vacant | .pending | .retiring => s

/-- A change of the timing class is handed to the Share Computer (R85, R86, R157). -/
def State.classChanged (s : State) : State :=
  (allTenants.foldl (fun s t => s.compareClass t) s).admissionEvent

/-- Gate open for a service gate flag (R181). -/
def State.gateFor (s : State) (flag : Option FlagIx) : Bool := s.verdictAllows flag

/-- Gate open is recomputed (R182). -/
def State.recomputeGate (s : State) : State := s.onPhc fun p => { p with gateOpen := s.gateFor p.gateFlag }

/-- A verdict change is handed to the Link Adaptation Unit: the step-up counts of each carrier whose admission the change
moves (R63, R162). -/
def State.admissionChanged (f : FlagIx) (s : State) : State :=
  let clear (c : Carrier) (s : State) : State :=
    if (s.lau.get c).names f then s.onAdapt c Adaptation.clearCounts else s
  clear .b (clear .a s)

/-- A write of a flag (R162): value, writer and superframe, the last two absent while the value is UNSET. A write that
changes the value is a verdict change. A write between the reaching of a superframe start and its SUPERFRAME_START bears the
number of the superframe that starts (log entry 68). -/
def State.writeVerdict (f : FlagIx) (v : VerdictValue) (w : Writer) (s : State) : State :=
  let old := s.verdict f
  let entry : Verdict :=
    if v = .unset then .reset else { value := v, writer := some w, superframe := some s.nowStarting }
  let s1 := s.onTru fun r => { r with verdicts := tableModify r.verdicts f fun _ => entry }
  if v = old then s1
  else
    let s2 := s1.addEvent .verdict
    let s3 := if (v == .pass) != (old == .pass) then s2.admissionChanged f else s2
    s3.recomputeGate.admissionEvent

/-- VERDICT_SET (R163). -/
def State.verdictSet (sheet : SheetIx) (params : List Word) (s : State) : State :=
  match required params 0 (decodeIndex 16), required params 1 decodeVerdict with
  | some f, some v => (s.writeVerdict f v .order).answer sheet .done []
  | _, _ => s.answer sheet .badParameter []

end Sys2Proof.Machine
end

