-- ==== Sys2Proof/Machine/Pool.lean ====
section
/-! DEFINITION. The Port and Queue Unit (chapter 4): cells, queues, arrivals, egress. -/

namespace Sys2Proof.Machine

/-! ### Cells (R72, R73) -/

/-- One cell leaves the free list; refused when none is free (R72). -/
def State.takeCell (s : State) : Option State :=
  if s.pqu.free = 0 then none
  else
    let s1 := s.onPqu fun q => { q with free := q.free - 1 }
    some (if s.pqu.free = 512 then s1.addEvent .pool else s1)

/-- Cells taken one at a time; false when one was refused (R72, R126). -/
def State.takeCells : Nat → State → State × Bool
  | 0, s => (s, true)
  | n + 1, s =>
    match s.takeCell with
    | none => (s, false)
    | some s' => State.takeCells n s'

/-- Cells return to the free list (R72). -/
def State.returnCells (n : Nat) : State → State := State.onPqu fun q => { q with free := q.free + n }

/-! ### Queues (section 4.5) -/

/-- The cells of a frame record (R75). -/
def Frame.cells (f : Frame) : Nat := cellsOf f.bytes.length

/-- The occupancy of a channel in cells (R68). -/
def ChannelEntry.cells (ch : ChannelEntry) : Nat := (ch.queue.map Frame.cells).sum

/-- The bytes still to be written of a channel's head frame, when it is in progress (R76, R115). -/
def State.inProgressOn (s : State) (ch : Channel) : Option Nat :=
  match (s.channel ch).owner with
  | none => none
  | some t =>
    match (s.outStream t).inProgress with
    | none => none
    | some (c, remaining) => if c = ch then some remaining else none

/-- The stream bytes of frames not yet begun: length plus 3 each (R76). -/
def notBegunBytes (queue : List Frame) : Nat := (queue.map fun f => f.bytes.length + 3).sum

/-- The queued stream bytes of a channel (R75, R76). -/
def State.streamBytes (s : State) (ch : Channel) : Nat :=
  match s.inProgressOn ch with
  | none => notBegunBytes (s.channel ch).queue
  | some remaining => remaining + notBegunBytes (s.channel ch).queue.tail

/-- The channels a tenant owns. -/
def State.channelsOf (s : State) (t : Tenant) : List Channel :=
  hostChannels.filter fun ch => (s.channel ch).owner == some t

/-- The outbound demand of a tenant: the queued stream bytes of its channels (R78, R100). -/
def State.outboundDemand (s : State) (t : Tenant) : Nat := ((s.channelsOf t).map s.streamBytes).sum

/-- Every channel a tenant owns is empty (R89). -/
def State.channelsEmpty (s : State) (t : Tenant) : Bool :=
  (s.channelsOf t).all fun ch => (s.channel ch).queue.isEmpty

/-- The head frame of a channel leaves its queue with its cells, and one of the channel's counters is raised (R76, R77). -/
def State.removeHead (ch : Channel) (count : ChannelEntry → ChannelEntry) (s : State) : State :=
  match (s.channel ch).queue with
  | [] => s
  | f :: rest => (s.onChannel ch fun e => count { e with queue := rest }).returnCells f.cells

/-- Every frame of a channel leaves at a purge (R77, R88). -/
def State.purgeChannel (ch : Channel) (s : State) : State :=
  let e := s.channel ch
  (s.onChannel ch fun e =>
    { e with queue := [], purged := e.purged + BitVec.ofNat 32 e.queue.length }).returnCells e.cells

/-- Every frame of every channel a tenant owns leaves, the frame in progress included (R77, R88). -/
def State.purge (t : Tenant) (s : State) : State :=
  ((s.channelsOf t).foldl (fun s ch => s.purgeChannel ch) s).onOutStream t fun o => { o with inProgress := none }

/-- A purge is taken: what its tenant is named for, and the moment, are kept for the frames of the tenant that arrive at that
same moment (R88, log entry 61). Purges of earlier moments are let go. -/
def State.notePurge (t : Tenant) (s : State) : State :=
  s.onPqu fun q =>
    { q with
      purges := ⟨t, s.tbs.advance, allPorts.filter fun p => (s.port p).tenant == some t, s.channelsOf t⟩
        :: q.purges.filter fun x => x.moment == s.tbs.advance }

/-- The tenant whose frame by this port and for this channel meets a purge taken at the same moment (R88). -/
def State.justPurged (s : State) (p : Port) (ch : Channel) : Option Tenant :=
  (s.pqu.purges.find? fun x => x.moment == s.tbs.advance && x.ports.contains p && x.channels.contains ch).map (·.tenant)

/-! ### Egress (R67) -/

/-- A frame handed to a port leaves if its link is UP and is discarded if it is DOWN; `true` in the result when it left. -/
def State.egress (p : Port) (bytes : List Byte) (s : State) : State × Bool :=
  if s.world.links[p] then
    ((s.onPort p fun e => { e with egress := e.egress + 1 }).emit (.portFrame p bytes), true)
  else (s.onPort p fun e => { e with egressDiscard := e.egressDiscard + 1 }, false)

/-! ### Arrivals (R74, R75) -/

/-- The channel a frame's first byte names: none for a frame without a tag (section 12.7). -/
def channelTag (bytes : List Byte) : Option Channel :=
  match bytes with
  | [] => none
  | b :: _ => if b.toNat / 64 = 2 then some ⟨b.toNat % 64, Nat.mod_lt _ (by decide)⟩ else none

/-- What becomes of an arrival (R74). -/
inductive ArrivalFate where
  | malformed
  | unassigned
  | refused (t : Tenant)
  | notAdmitted (t : Tenant)
  | full (ch : Channel)
  | pool (ch : Channel)
  | admitted (ch : Channel)
  deriving DecidableEq, Repr

/-- A tenant's frames are admitted: ADMITTED and HELD (R74, section 5.2). -/
def TenantState.takesTraffic : TenantState → Bool
  | .admitted | .held => true
  | .vacant | .pending | .retiring => false

/-- The seven checks of an arrival, in their order (R74). A frame of a tenant purged at the same moment, whose port the purge
has already left without a tenant, is dropped as not admitted (R88, log entry 61). -/
def State.arrivalFate (s : State) (p : Port) (bytes : List Byte) (checkGood : Bool) : ArrivalFate :=
  if !checkGood || bytes.length < 64 || 1536 < bytes.length then .malformed
  else
    let ch := (channelTag bytes).getD (s.port p).defaultChannel
    match (s.port p).tenant with
    | none =>
      match s.justPurged p ch with
      | none => .unassigned
      | some t => .notAdmitted t
    | some t =>
      let cells := cellsOf bytes.length
      if ch = 63 then .malformed
      else if (s.channel ch).owner ≠ some t then .refused t
      else if !(s.contract t).state.takesTraffic then .notAdmitted t
      else if (s.channel ch).limit < (s.channel ch).cells + cells then .full ch
      else if s.pqu.free < 256 + cells then .pool ch
      else .admitted ch

/-- An admitted frame takes its cells and joins its channel's queue (R73, R75), with the superframe in progress as that of its
arrival (log entry 68). -/
def State.enqueue (p : Port) (bytes : List Byte) (ch : Channel) (s : State) : State :=
  let cells := cellsOf bytes.length
  let s1 := s.onPqu fun q => { q with free := q.free - cells }
  let s2 := if 512 ≤ s.pqu.free ∧ s.pqu.free - cells < 512 then s1.addEvent .pool else s1
  s2.onChannel ch fun e =>
    { e with
      queue := e.queue ++ [{ bytes := bytes, port := p, arrival := s.tbs.superframe }]
      enqueued := e.enqueued + 1 }

/-- An arrival is counted and admitted or dropped (R74, R75, R79). -/
def State.arrive (p : Port) (bytes : List Byte) (checkGood : Bool) (s : State) : State :=
  let s1 := s.onPort p fun e => { e with ingress := e.ingress + 1 }
  match s.arrivalFate p bytes checkGood with
  | .malformed => s1.onPort p fun e => { e with malformed := e.malformed + 1 }
  | .unassigned => s1.onPort p fun e => { e with unassigned := e.unassigned + 1 }
  | .refused t => s1.onPqu fun q => { q with refused := tableModify q.refused t (· + 1) }
  | .notAdmitted t => s1.onPqu fun q => { q with notAdmitted := tableModify q.notAdmitted t (· + 1) }
  | .full ch => s1.onChannel ch fun e => { e with full := e.full + 1 }
  | .pool ch => s1.onChannel ch fun e => { e with pool := e.pool + 1 }
  | .admitted ch => s1.enqueue p bytes ch

/-! ### Orders -/

/-- PORT_SET (R66). -/
def State.portSet (sheet : SheetIx) (params : List Word) (s : State) : State :=
  match required params 0 (decodeIndex 6) with
  | none => s.answer sheet .badParameter []
  | some p =>
    match given params 1 (decodeIndexOrNone 8) (s.port p).tenant,
        given params 2 (fun w => (decodeIndex 64 w).filter fun ch => ch != 63) (s.port p).defaultChannel with
    | some tenant, some ch =>
      (s.onPort p fun e => { e with tenant := tenant, defaultChannel := ch }).answer sheet .done []
    | _, _ => s.answer sheet .badParameter []

/-- CHANNEL_SET (R69). -/
def State.channelSet (sheet : SheetIx) (params : List Word) (s : State) : State :=
  match required params 0 (fun w => (decodeIndex 64 w).filter fun ch => ch != 63) with
  | none => s.answer sheet .badParameter []
  | some ch =>
    let e := s.channel ch
    match given params 1 (decodeIndexOrNone 8) e.owner, given params 2 (decodeIndex 4) e.priority,
        given params 3 (decodeRange 1 4096) e.limit, given params 4 (decodeRange 0 65535) e.maxAge,
        given params 5 (decodeIndexOrNone 6) e.egressPort with
    | some owner, some priority, some limit, some maxAge, some egressPort =>
      if owner ≠ e.owner ∧ e.queue ≠ [] then s.answer sheet .busy []
      else
        (s.onChannel ch fun e =>
          { e with
            owner := owner
            priority := priority
            limit := limit
            maxAge := maxAge
            egressPort := egressPort }).answer sheet .done []
    | _, _, _, _, _ => s.answer sheet .badParameter []

end Sys2Proof.Machine
end

