-- ==== Sys2Proof/Machine/Tests.lean ====
section
/-! DEFINITION. The Test Runner (chapter 10): the queue, starting and ending tests, the loop protocol. -/

namespace Sys2Proof.Machine

/-! ### What a test names -/

def TestParams.kind : TestParams → TestKind
  | .sweep .. => .sweep
  | .loopBerOut .. => .loopBerOut
  | .loopBerIn .. => .loopBerIn
  | .delayCal .. => .delayCal
  | .timeCheck .. => .timeCheck

def TestParams.carrier : TestParams → Carrier
  | .sweep c .. => c
  | .loopBerOut c .. => c
  | .loopBerIn c .. => c
  | .delayCal c .. => c
  | .timeCheck c .. => c

def TestParams.flag : TestParams → Option FlagIx
  | .sweep _ _ _ _ _ f _ => f
  | .loopBerOut _ _ _ f _ => f
  | .loopBerIn _ _ _ f _ => f
  | .delayCal _ _ f _ => f
  | .timeCheck _ _ f _ => f

/-- The out-of-service kinds (section 10.1). -/
def TestKind.outOfService (k : TestKind) : Bool := k == .loopBerOut || k == .delayCal

/-- The loopback kinds (section 10.1). -/
def TestKind.loopback (k : TestKind) : Bool := k == .loopBerOut || k == .loopBerIn || k == .delayCal

/-- The phases at start of a kind (section 10.1). -/
def TestKind.startsIn (k : TestKind) (p : Phase) : Bool :=
  match k with
  | .sweep => p == .align || p == .commission
  | .loopBerOut | .delayCal => p == .commission
  | .loopBerIn | .timeCheck => p == .commission || p == .service

def Running.kind (r : Running) : TestKind := r.record.params.kind
def Running.carrier (r : Running) : Carrier := r.record.params.carrier

/-! ### Answer words (section 12.4) -/

/-- The clamp mark: 0 or 1. -/
def clampWord (b : Bool) : Word := if b then 1 else 0

/-- A value beyond ±2,147,483,647 is reported as the nearer of those limits (R179). -/
def limitedWord (v : Int) : Word := signedWord (clampInt (-2147483647) 2147483647 v)

/-- The mean of a TIME_CHECK rounded toward zero; of no pairs, a free value (R179, log entry 4). -/
def CheckData.mean (d : CheckData) (openCount : Nat) : Int :=
  if d.pairs = 0 then Config.meanOfNoPairs openCount else d.sum.tdiv d.pairs

/-- The words of a test that ran, after its clamp mark (R172, R174, R178, R179). -/
def RunData.words (openCount : Nat) : RunData → List Word
  | .sweep d =>
    [d.written, d.wraps, signedWord ((d.peak.map (·.1)).getD (-1000)), BitVec.ofNat 32 ((d.peak.map (·.2)).getD 0),
      d.writeErrors]
  | .ber d => [d.superframes] ++ lowHigh d.bits ++ lowHigh d.errors ++ [d.lost]
  | .delay d =>
    [signedWord (d.result.getD 0), signedWord (d.leastP.getD 0), signedWord (d.least0.getD 0),
      BitVec.ofNat 32 d.countP, BitVec.ofNat 32 d.count0, d.passedOver]
  | .check d =>
    [BitVec.ofNat 32 d.counted, BitVec.ofNat 32 d.pairs, limitedWord (d.mean openCount), limitedWord d.least,
      limitedWord d.greatest]

def Running.words (r : Running) (openCount : Nat) : List Word :=
  clampWord r.record.clamped :: r.data.words openCount

/-! ### The end of a test (R167) -/

/-- The holdings of the running test are released and its slot is empty (R166, R167). -/
def State.releaseTest (s : State) : State :=
  match s.tru.running with
  | none => s
  | some r =>
    (s.onAdapt r.carrier fun a => { a with pin := none }).onTru fun t =>
      { t with running := none, holdings := t.holdings.modify r.carrier fun _ => .reset }

/-- An end of the running test: the flag is written when it completes with one, the holdings are released, and the answer
is handed over with the words as they stood (R167). -/
def State.endTest (verdict : Option VerdictValue) (code : AnswerCode) (s : State) : State :=
  match s.tru.running with
  | none => s
  | some r =>
    let words := r.words s.openCount
    let s1 :=
      match verdict, r.record.params.flag with
      | some v, some f => s.writeVerdict f v (.test r.kind)
      | _, _ => s
    s1.releaseTest.draw.answer r.record.sheet code words

/-- The completion code: PASSED or FAILED with a flag named, COMPLETED with none (R167). -/
def completionCode (flag : Option FlagIx) (pass : Bool) : AnswerCode :=
  if flag.isNone then .completed else if pass then .passed else .failed

/-- A completion with its verdict (R167). -/
def State.completeTest (pass : Bool) (s : State) : State :=
  match s.tru.running with
  | none => s
  | some r => s.endTest (some (if pass then .pass else .fail)) (completionCode r.record.params.flag pass)

/-- The verdict of a SWEEP (R174). -/
def SweepData.passes (d : SweepData) (limit : Int) : Bool :=
  match d.peak with
  | none => false
  | some (level, _) => decide (limit ≤ level)

/-- The verdict of a BER test (R172). -/
def BerData.passes (d : BerData) (limit : Nat) : Bool :=
  decide (0 < d.bits.toNat) && decide (d.errors.toNat * 1000000000 ≤ limit * d.bits.toNat)

/-- The verdict of a TIME_CHECK of N seconds (R179): at least N/2 rounded up pairs, and the mean, taken without its sign,
at or below the limit. -/
def CheckData.passes (d : CheckData) (seconds limit : Nat) : Bool :=
  decide (0 < d.pairs) && decide ((seconds + 1) / 2 ≤ d.pairs) && decide ((d.sum.tdiv d.pairs).natAbs ≤ limit)

/-- The verdict of the running test as its results stand. -/
def Running.passes (r : Running) : Bool :=
  match r.record.params, r.data with
  | .sweep _ _ _ _ _ _ limit, .sweep d => d.passes limit
  | .loopBerOut _ _ _ _ limit, .ber d => d.passes limit
  | .loopBerIn _ _ _ _ limit, .ber d => d.passes limit
  | .delayCal _ _ _ limit, .delay d =>
    match d.result with
    | none => false
    | some v => decide (v.natAbs ≤ limit)
  | .timeCheck _ n _ limit, .check d => d.passes n limit
  | _, _ => false

/-- The running test is stopped without an answer: a withdrawal (R15, R167). -/
def State.dropTest (sheet : SheetIx) (s : State) : State :=
  let s1 := s.onTru fun t => { t with queue := t.queue.filter fun r => r.sheet != sheet }
  match s1.tru.running with
  | none => s1
  | some r => if r.record.sheet = sheet then s1.releaseTest else s1

/-- A loss of its carrier ends a test other than a SWEEP (R169). -/
def State.testLinkLoss (c : Carrier) (s : State) : State :=
  match s.tru.running with
  | none => s
  | some r => if r.carrier = c ∧ r.kind ≠ .sweep then s.endTest none .endedLinkLoss else s

/-- The entry of its carrier to OFF ends a SWEEP (R169). -/
def State.sweepCarrierOff (c : Carrier) (s : State) : State :=
  match s.tru.running with
  | none => s
  | some r => if r.carrier = c ∧ r.kind = .sweep then s.endTest none .endedLinkLoss else s

/-- A LOOP_BER_IN ends when the outbound profile committed for its carrier differs from its reference profile (R176). -/
def State.berInProfileChange (s : State) : State :=
  match s.tru.running with
  | none => s
  | some r =>
    match r.record.params, r.data with
    | .loopBerIn c _ _ _ _, .ber d =>
      if (s.lau.get c).outbound.cur ≠ d.reference then s.endTest none .endedProfileChange else s
    | _, _ => s

/-! ### Orders -/

/-- The capture address of a SWEEP, rounded down to a multiple of 4 (R164). -/
def captureAddress (v : BitVec 64) : BitVec 64 := v &&& ~~~(3 : BitVec 64)

/-- The test a TEST order asks for, checked and clamped (R164); none where a check fails. -/
def State.testOf (s : State) (sheet : SheetIx) (params : List Word) : Option TestRecord := do
  let kind ← required params 0 decodeTestKind
  match kind with
  | .sweep =>
    if params.length < 9 then none
    let c ← required params 1 s.decodeCarrier
    let decimation ← required params 2 decodeCount
    let length ← required params 5 decodeCount
    let wrap ← required params 6 decodeSwitch
    let flag ← required params 7 (decodeIndexOrNone 16)
    let limit ← required params 8 decodeSigned
    if wideParam params 3 = 0 then none
    let decimation' := clampNat 1 1000 decimation
    let length' := clampNat 1 65536 length
    some ⟨sheet, .sweep c decimation' (captureAddress (wideParam params 3)) length' wrap flag limit,
      decimation' != decimation || length' != length⟩
  | .loopBerOut =>
    if params.length < 6 then none
    let c ← required params 1 s.decodeCarrier
    let p ← required params 2 (decodeIndex 8)
    let duration ← required params 3 decodeCount
    let flag ← required params 4 (decodeIndexOrNone 16)
    let limit ← required params 5 decodeCount
    let duration' := clampNat 1 60000 duration
    some ⟨sheet, .loopBerOut c p duration' flag limit, duration' != duration⟩
  | .loopBerIn =>
    if params.length < 6 then none
    let c ← required params 1 s.decodeCarrier
    let k ← required params 2 decodeCount
    let duration ← required params 3 decodeCount
    let flag ← required params 4 (decodeIndexOrNone 16)
    let limit ← required params 5 decodeCount
    let k' := clampNat 1 16 k
    let duration' := clampNat 1 60000 duration
    some ⟨sheet, .loopBerIn c k' duration' flag limit, k' != k || duration' != duration⟩
  | .delayCal =>
    if params.length < 5 then none
    let c ← required params 1 s.decodeCarrier
    let p ← required params 2 (decodeIndex 8)
    let flag ← required params 3 (decodeIndexOrNone 16)
    let limit ← required params 4 decodeCount
    if p = 0 then none
    some ⟨sheet, .delayCal c p flag limit, false⟩
  | .timeCheck =>
    if params.length < 5 then none
    let c ← required params 1 s.decodeCarrier
    let n ← required params 2 decodeCount
    let flag ← required params 3 (decodeIndexOrNone 16)
    let limit ← required params 4 decodeCount
    let n' := clampNat 1 3600 n
    some ⟨sheet, .timeCheck c n' flag limit, n' != n⟩

/-- TEST (R164): checked, clamped and queued; it is not answered until the test ends. -/
def State.testOrder (sheet : SheetIx) (params : List Word) (s : State) : State :=
  match s.testOf sheet params with
  | none => s.answer sheet .badParameter []
  | some r =>
    if 4 ≤ s.tru.queue.length then s.answer sheet .noRoom []
    else s.onTru fun t => { t with queue := t.queue ++ [r] }

/-- TEST_STOP (R168). The answer of the test it stops is handed over first (log entry 70). -/
def State.testStop (sheet : SheetIx) (params : List Word) (s : State) : State :=
  match required params 0 (decodeIndex 32) with
  | none => s.answer sheet .badParameter []
  | some target =>
    match s.tru.queue.find? fun r => r.sheet == target with
    | some r =>
      ((s.onTru fun t => { t with queue := t.queue.filter fun q => q.sheet != target }).answer target .stopped
        [clampWord r.clamped]).answer sheet .done []
    | none =>
      match s.tru.running with
      | none => s.answer sheet .badParameter []
      | some r =>
        if r.record.sheet = target then
          match r.record.params with
          | .sweep _ _ _ _ true _ _ => (s.completeTest r.passes).answer sheet .done []
          | _ => (s.endTest none .stopped).answer sheet .done []
        else s.answer sheet .badParameter []

/-! ### Starting (R165, R166) -/

/-- The carrier of a test is ready for its start (R165). -/
def State.carrierReady (s : State) (p : TestParams) : Bool :=
  let f := s.cfr.get p.carrier
  match p.kind with
  | .sweep => f.tx == .starting || f.tx == .running
  | .loopBerOut | .loopBerIn | .delayCal | .timeCheck => f.tx == .running && (f.rx == .sync || f.rx == .flywheel)

/-- What the running test begins with at superframe `start` (R171, R173, R176, R177, R179). The reference profile is P0 where
none is committed (R176, log entry 73). -/
def State.runDataAt (s : State) (start : Word) (p : TestParams) : RunData :=
  match p with
  | .sweep .. =>
    .sweep { nextSample := start, index := 0, wraps := 0, written := 0, peak := none, writeErrors := 0 }
  | .loopBerOut c _ _ _ _ | .loopBerIn c _ _ _ _ =>
    .ber { reference := (s.lau.get c).outbound.cur, pattern := patternStart, sent := [], superframes := 0, bits := 0,
           errors := 0, lost := 0 }
  | .delayCal .. =>
    .delay { countP := 0, leastP := none, count0 := 0, least0 := none, passedOver := 0, result := none,
             lastStep := none }
  | .timeCheck .. => .check { begun := false, counted := 0, pairs := 0, sum := 0, least := 0, greatest := 0 }

/-- The pin a test sets (R166). -/
def TestParams.pin : TestParams → Option Pin
  | .loopBerOut _ p _ _ _ => some { outbound := p, inbound := p, alternation := false }
  | .delayCal _ p _ _ => some { outbound := p, inbound := 0, alternation := true }
  | .sweep .. | .loopBerIn .. | .timeCheck .. => none

/-- What a test holds on its carrier (R166). -/
def TestParams.holding : TestParams → Holding
  | .sweep .. | .timeCheck .. => .reset
  | .loopBerOut .. | .delayCal .. => { requirement := .whole, echo := true }
  | .loopBerIn _ k _ _ _ => { requirement := .slots k, echo := true }

/-- A test starts at the superframe start in progress (R165, R166); the first sample of a SWEEP falls due. That it is made
behind the whole SUPERFRAME_START, and behind the steps already due, is the model's choice (R173, log entry 74). -/
def State.startTest (r : TestRecord) (s : State) : State :=
  let c := r.params.carrier
  let start := s.nowStarting
  let s1 := s.onTru fun t =>
    { t with
      running := some { record := r, start := start, acknowledged := false, data := s.runDataAt start r.params }
      holdings := t.holdings.modify c fun _ => r.params.holding }
  let s2 :=
    match r.params.pin with
    | none => s1
    | some pin => s1.onAdapt c fun a => { a with pin := some pin }
  if r.params.kind = .sweep then s2.fallDue (.sweepSample [] true) else s2

/-- The heads of the queue are tried until one starts or the queue is empty (R165). -/
def State.tryHeads : Nat → State → State
  | 0, s => s
  | n + 1, s =>
    match s.tru.running, s.tru.queue with
    | none, r :: rest =>
      let s1 := s.onTru fun t => { t with queue := rest }
      if !r.params.kind.startsIn s.phc.phase then
        State.tryHeads n (s1.answer r.sheet .wrongPhase [clampWord r.clamped])
      else if !s.carrierReady r.params then
        State.tryHeads n (s1.answer r.sheet .notReady [clampWord r.clamped])
      else s1.startTest r
    | _, _ => s

/-! ### Ends that fall due at a superframe start -/

/-- Superframes begun since the running test's start superframe. -/
def State.testAge (s : State) (r : Running) : Nat := (s.nowStarting - r.start).toNat

/-- The duration of a BER test. -/
def TestParams.duration : TestParams → Option Nat
  | .loopBerOut _ _ d _ _ => some d
  | .loopBerIn _ _ d _ _ => some d
  | .sweep .. | .delayCal .. | .timeCheck .. => none

/-- A BER test's duration has ended (R175, R176). -/
def State.berEndDue (s : State) : Bool :=
  match s.tru.running with
  | none => false
  | some r =>
    match r.record.params.duration with
    | none => false
    | some d => decide (d + 1 ≤ s.testAge r)

/-- A BER test at the start after its duration: it completes, or ends with NO_LOOP when it is unacknowledged (R170, R172,
R175, R176). -/
def State.berEnd (s : State) : State :=
  if s.berEndDue then
    match s.tru.running with
    | none => s
    | some r => if r.acknowledged then s.completeTest r.passes else s.endTest none .noLoop
  else s

/-- A loopback test is unacknowledged at the start of s + 64 (R170). -/
def State.noLoopDue (s : State) : Bool :=
  match s.tru.running with
  | none => false
  | some r => r.kind.loopback && !r.acknowledged && decide (64 ≤ s.testAge r)

/-- NO_LOOP (R170). -/
def State.noLoopEnd (s : State) : State := if s.noLoopDue then s.endTest none .noLoop else s

/-- A DELAY_CAL has reached the start of s + 4,096 (R178). -/
def State.delayTimeoutDue (s : State) : Bool :=
  match s.tru.running with
  | none => false
  | some r => r.kind == .delayCal && decide (4096 ≤ s.testAge r)

/-- A DELAY_CAL not completed by the start of s + 4,096: FAILED with FAIL written, or COMPLETED, and no D (R178). -/
def State.delayTimeout (s : State) : State := if s.delayTimeoutDue then s.completeTest false else s

/-! ### SWEEP (R173, R174) -/

/-- A sample of the running SWEEP falls due at the superframe start in progress (R173). -/
def State.sampleDue (s : State) : Bool :=
  match s.tru.running with
  | none => false
  | some r =>
    match r.data with
    | .sweep d => atOrAfter s.nowStarting d.nextSample
    | .ber _ | .delay _ | .check _ => false

/-- The running test's data are replaced. -/
def State.setRunData (d : RunData) : State → State :=
  State.onTru fun t => { t with running := t.running.map fun r => { r with data := d } }

/-- One sample is taken and written (R173); in STOP mode the capture length ends the test. -/
def State.sweepSample (writeGood : Bool) (s : State) : State :=
  if s.sampleDue then
    match s.tru.running with
    | none => s
    | some r =>
      match r.record.params, r.data with
      | .sweep c decimation address length wrap _ _, .sweep d =>
        let report := ((s.lau.get c).lastLocal).getD ⟨0, -1000⟩
        let good := writeGood && s.world.busMaster
        let sample := packHalves (BitVec.ofInt 16 report.level).toNat report.snr
        let peak :=
          match d.peak with
          | none => (report.level, d.index)
          | some (level, index) => if level < report.level then (report.level, d.index) else (level, index)
        let full := d.index + 1 = length
        let d' : SweepData :=
          { nextSample := d.nextSample + BitVec.ofNat 32 decimation
            index := if full ∧ wrap then 0 else d.index + 1
            wraps := if full ∧ wrap then d.wraps + 1 else d.wraps
            written := d.written + 1
            peak := some peak
            writeErrors := if good then d.writeErrors else d.writeErrors + 1 }
        let s1 :=
          if good then
            s.onWorld fun w =>
              { w with mem := writeBytes (address + BitVec.ofNat 64 (4 * d.index)) (wordBytes sample) w.mem }
          else s
        let s2 := s1.setRunData (.sweep d')
        if full ∧ !wrap then s2.completeTest ((Running.mk r.record r.start r.acknowledged (.sweep d')).passes) else s2
      | _, _ => s
  else s

/-! ### The loop protocol (R170 to R172) -/

/-- An accepted header of a carrier bears the loop acknowledgement (R170). -/
def State.loopAcknowledged (c : Carrier) : State → State :=
  State.onTru fun t =>
    { t with running := t.running.map fun r =>
        if r.carrier = c ∧ r.kind.loopback then { r with acknowledged := true } else r }

/-- An entry joins a sent record; a fifth lets the oldest go, whose slots not echoed good are lost (R171). -/
def BerData.addSent (d : BerData) (e : SentEntry) : BerData :=
  match d.sent with
  | [] => { d with sent := [e] }
  | old :: rest =>
    if d.sent.length < 4 then { d with sent := d.sent ++ [e] }
    else
      { d with
        sent := rest ++ [e]
        lost := d.lost + BitVec.ofNat 32 (old.positions.countP fun j => !old.echoed.contains j) }

/-- The tag of a TEST slot: superframe, position, kind (R171). -/
def slotTag (n : Word) (position : Nat) (kind : TestKind) : List Byte :=
  bigEndian 4 n.toNat ++ [BitVec.ofNat 8 position, BitVec.ofNat 8 kind.code]

/-- The contents of a BER test's slots of one superframe, in slot order, and the pattern after them (R171). -/
def berContents (n : Word) (kind : TestKind) (payload : Nat) : List Nat → BitVec 23 → List (List Byte) × BitVec 23
  | [], w => ([], w)
  | j :: rest, w =>
    let (bytes, w') := patternBytes (payload - 6) w
    let (more, w'') := berContents n kind payload rest w'
    ((slotTag n j kind ++ bytes) :: more, w'')

/-- The content of a DELAY_CAL slot: tag, probe and fill (R171, R177). -/
def probeContent (n : Word) (position : Nat) (payload : Nat) (departure : Stamp) : List Byte :=
  let head := slotTag n position .delayCal ++ bigEndian 6 departure.sec.toNat ++ bigEndian 4 departure.ns
  head ++ List.replicate (payload - head.length) 0

/-- What the running test supplies for the TEST slots of a carrier in the superframe just started, in slot order; nothing
where no loopback test fills them (R120, R171). -/
def State.testContents (c : Carrier) (payload : Nat) (positions : List Nat) (s : State) : List (List Byte) × State :=
  match s.tru.running with
  | none => ([], s)
  | some r =>
    let n := s.tbs.superframe
    let age := (n - r.start).toNat
    if r.carrier ≠ c ∨ age = 0 ∨ positions = [] then ([], s)
    else
      match r.data, r.record.params.duration with
      | .ber d, some duration =>
        if duration < age then ([], s)
        else
          let (contents, after) := berContents n r.kind payload positions d.pattern
          let entry : SentEntry :=
            { superframe := n, pattern := d.pattern, payload := payload, positions := positions, echoed := [] }
          (contents,
            s.setRunData (.ber { d.addSent entry with pattern := after, superframes := d.superframes + 1 }))
      | .delay _, _ => (positions.map fun j => probeContent n j payload s.now, s)
      | _, _ => ([], s)

/-- The pattern state at a position of a sent entry: the entry's state run past the bytes of the positions before it. -/
def SentEntry.patternAt (e : SentEntry) (position : Nat) : BitVec 23 :=
  (patternBytes ((e.positions.takeWhile fun j => j != position).length * (e.payload - 6)) e.pattern).2

/-- The bits in which two byte lists differ, over the length of the shorter. -/
def bitErrors (xs ys : List Byte) : Nat := ((xs.zip ys).map fun (x, y) => bitsDiffering x y).sum

/-- One echoed TEST slot read by a BER test (R172). R172 does not say what makes a tag the test's own: here the code of its
kind does, with the superframe and a position of an entry of the sent record (log entry 49). -/
def BerData.readEcho (kind : TestKind) (d : BerData) (payload : List Byte) : BerData :=
  let n : Word := BitVec.ofNat 32 (readBig (payload.take 4))
  let j := (payload[4]?.getD 0).toNat
  if payload.length < 6 ∨ (payload[5]?.getD 0).toNat ≠ kind.code then d
  else
    match d.sent.find? fun e => e.superframe == n with
    | none => d
    | some e =>
      if !e.positions.contains j || e.echoed.contains j then d
      else
        let count := min payload.length e.payload - 6
        let expected := (patternBytes count (e.patternAt j)).1
        { d with
          sent := d.sent.map fun x => if x.superframe = n then { x with echoed := x.echoed ++ [j] } else x
          bits := d.bits + BitVec.ofNat 64 (8 * count)
          errors := d.errors + BitVec.ofNat 64 (bitErrors ((payload.drop 6).take count) expected) }

/-- A probe read from an echoed TEST slot: its superframe and its departure stamp (R177). Here the kind code in the tag makes
it the test's own; that its superframe was one the test has sent is not looked at (R172, log entry 49). -/
def probeOf (payload : List Byte) : Option (Word × Stamp) :=
  if payload.length < 16 ∨ (payload[5]?.getD 0).toNat ≠ TestKind.delayCal.code then none
  else
    some (BitVec.ofNat 32 (readBig (payload.take 4)),
      { sec := BitVec.ofNat 48 (readBig ((payload.drop 6).take 6)), ns := readBig ((payload.drop 12).take 4) })

/-- The lesser of a kept round trip and a new one (R177). -/
def leastOf (kept : Option Int) (v : Int) : Option Int :=
  match kept with
  | none => some v
  | some k => if v < k then some v else some k

/-- One round trip counted or passed over (R177). -/
def DelayData.roundTrip (start : Word) (d : DelayData) (n : Word) (rtt : Int) : DelayData :=
  let beforeStep :=
    match d.lastStep with
    | none => false
    | some m => decide ((n - start).toNat ≤ (m - start).toNat)
  if rtt < 0 ∨ 10000000 < rtt ∨ beforeStep = true then { d with passedOver := d.passedOver + 1 }
  else if n.getLsbD 0 then { d with count0 := d.count0 + 1, least0 := leastOf d.least0 rtt }
  else { d with countP := d.countP + 1, leastP := leastOf d.leastP rtt }

/-- The result of a DELAY_CAL that has 64 round trips of each setting (R178). -/
def DelayData.completed (d : DelayData) : Option Int :=
  if 64 ≤ d.countP ∧ 64 ≤ d.count0 then
    some (clampInt (-500000) 500000 (d.leastP.getD 0 - d.least0.getD 0))
  else none

/-- The TEST slots of one inbound superframe reach the Test Runner (R123, R172, R177, R178): `slots` are the payloads of
the good ones in slot order. -/
def State.readEchoes (c : Carrier) (t4 : Stamp) (residence : Word) (slots : List (List Byte)) (s : State) : State :=
  match s.tru.running with
  | none => s
  | some r =>
    if r.carrier ≠ c then s
    else
      match r.data with
      | .ber d => s.setRunData (.ber (slots.foldl (fun d p => d.readEcho r.kind p) d))
      | .delay d =>
        match (slots.filterMap probeOf).find? fun (n, _) => n != r.start && atOrAfter n r.start with
        | none => s
        | some (n, departure) =>
          let d1 := d.roundTrip r.start n (stampDiff t4 departure - (residence.toNat : Int))
          match d1.completed, r.record.params with
          | some v, .delayCal _ p _ _ =>
            let d2 := { d1 with result := some v }
            (((s.setRunData (.delay d2)).writeDelay c p v).completeTest
              (Running.mk r.record r.start r.acknowledged (.delay d2)).passes)
          | _, _ => s.setRunData (.delay d1)
      | .sweep _ | .check _ => s

/-- A step of the Time Counter while a DELAY_CAL runs (R177). -/
def State.testSeesStep (s : State) : State :=
  match s.tru.running with
  | none => s
  | some r =>
    match r.data with
    | .delay d => s.setRunData (.delay { d with lastStep := some s.tbs.superframe })
    | .sweep _ | .ber _ | .check _ => s

/-! ### TIME_CHECK (R179) -/

/-- One second's samples reach a TIME_CHECK (R143, R179). -/
def CheckData.second (seconds : Nat) (d : CheckData) (gnss link : Option Int) : CheckData :=
  if !d.begun then { d with begun := true }
  else if seconds ≤ d.counted then d
  else
    let d1 := { d with counted := d.counted + 1 }
    match gnss, link with
    | some g, some l =>
      let x := g - l
      { d1 with
        pairs := d.pairs + 1
        sum := d.sum + x
        least := if d.pairs = 0 then x else min d.least x
        greatest := if d.pairs = 0 then x else max d.greatest x }
    | _, _ => d1

/-- The N-th counted second of a TIME_CHECK has ended (R179). -/
def State.checkDue (s : State) : Bool :=
  match s.tru.running with
  | none => false
  | some r =>
    match r.record.params, r.data with
    | .timeCheck _ n _ _, .check d => decide (n ≤ d.counted)
    | _, _ => false

/-- The samples of a second's end are handed to the Test Runner (R143); the completion of a TIME_CHECK may fall due, behind
the other steps of that tick still to be made (R179, log entry 72). -/
def State.testSeesSecond (gnss : Option Int) (link : PerCarrier (Option Int)) (s : State) : State :=
  match s.tru.running with
  | none => s
  | some r =>
    match r.record.params, r.data with
    | .timeCheck c n _ _, .check d =>
      let s1 := s.setRunData (.check (d.second n gnss (link.get c)))
      if s1.checkDue then s1.fallDue (.timeCheckCompletion []) else s1
    | _, _ => s

/-- A TIME_CHECK completes (R179). -/
def State.checkCompletes (s : State) : State :=
  if s.checkDue then
    match s.tru.running with
    | none => s
    | some r => s.completeTest r.passes
  else s

end Sys2Proof.Machine
end

