-- ==== Sys2Proof/Machine/Reassembly.lean ====
section
/-! DEFINITION. The Reassembler (sections 7.3 to 7.5). -/

namespace Sys2Proof.Machine

/-! ### Stream records (R121) -/

/-- A stream goes to HUNTING; a partial frame is discarded: its cells return and its channel's inbound dropped count rises
(R121). -/
def State.huntStream (t : Tenant) (s : State) : State :=
  match s.inStream t with
  | .collecting (some f) =>
    ((s.returnCells (cellsOf f.bytes.length)).onChannel f.channel fun e => { e with dropped := e.dropped + 1 }).onInStream t
      fun _ => .hunting
  | .collecting none | .hunting => s.onInStream t fun _ => .hunting

/-- Every stream goes to HUNTING. -/
def State.huntAll (s : State) : State := allTenants.foldl (fun s t => s.huntStream t) s

/-! ### Delivery (R127) -/

/-- A complete inbound frame is judged against its channel, and delivered or dropped; its cells return (R127). -/
def State.deliverFrame (t : Tenant) (f : PartialFrame) (s : State) : State :=
  let s1 := (s.returnCells (cellsOf f.bytes.length)).onInStream t fun _ => .collecting none
  let e := s.channel f.channel
  match e.egressPort with
  | none => s1.onChannel f.channel fun e => { e with dropped := e.dropped + 1 }
  | some p =>
    if e.owner = some t then
      ((s1.onChannel f.channel fun e => { e with delivered := e.delivered + 1 }).egress p f.bytes).1
    else s1.onChannel f.channel fun e => { e with dropped := e.dropped + 1 }

/-! ### Reading slots (R125, R126, R194) -/

/-- Bytes added to a stream's partial frame, with the cells they need (R126). A refused cell discards the frame and sends
the stream to HUNTING, `false` in the result. A frame they complete is delivered. -/
def State.storeBytes (t : Tenant) (f : PartialFrame) (bytes : List Byte) (s : State) : State × Bool :=
  let grown : PartialFrame := { f with bytes := f.bytes ++ bytes }
  let had := cellsOf f.bytes.length
  let needed := cellsOf grown.bytes.length - had
  let (s1, granted) := s.takeCells needed
  if granted then
    if grown.bytes.length = f.length then (s1.deliverFrame t grown, true)
    else (s1.onInStream t fun _ => .collecting (some grown), true)
  else
    -- the cells taken so far for the frame return with it
    (((s1.returnCells (had + (s.pqu.free - s1.pqu.free))).onChannel f.channel fun e =>
      { e with dropped := e.dropped + 1 }).onInStream t fun _ => .hunting, false)

/-- What stands at a reading position of a slot (R126). -/
inductive LabelRead where
  /-- fewer than 3 bytes, or a label of length 0: the rest is fill -/
  | fill
  /-- a label that names a channel of 63 or above or has a length outside 64 to 1,536 -/
  | bad
  /-- a valid label and the bytes behind it -/
  | frame (channel : Channel) (length : Nat) (rest : List Byte)
  deriving DecidableEq, Repr

/-- Reads a frame label (R31, section 12.6). -/
def readLabel (bytes : List Byte) : LabelRead :=
  match bytes with
  | c :: hi :: lo :: rest =>
    let length := hi.toNat * 256 + lo.toNat
    if length = 0 then .fill
    else if h : c.toNat < 63 then
      if 64 ≤ length ∧ length ≤ 1536 then .frame ⟨c.toNat, Nat.lt_succ_of_lt h⟩ length rest else .bad
    else .bad
  | _ => .fill

/-- Reads labels and frames from a position within a good slot (R126). `fuel` bounds the number of labels: each takes
at least three bytes. -/
def State.readLabels (t : Tenant) : Nat → List Byte → State → State
  | 0, _, s => s
  | fuel + 1, bytes, s =>
    match readLabel bytes with
    | .fill => s
    | .bad => s.huntStream t
    | .frame ch length rest =>
      let (s1, granted) := s.storeBytes t ⟨ch, length, []⟩ (rest.take length)
      if granted ∧ length ≤ rest.length then State.readLabels t fuel (rest.drop length) s1 else s1

/-- Reading goes on at a byte in HUNTING (R125, case 3). -/
def State.readHunting (t : Tenant) (bytes : List Byte) (s : State) : State :=
  match bytes with
  | [] => s
  | _ :: _ =>
    match readLabel bytes with
    | .bad => s
    | .fill => s.onInStream t fun _ => .collecting none
    | .frame _ _ _ => State.readLabels t bytes.length bytes (s.onInStream t fun _ => .collecting none)

/-- A slot of a tenant in the plan reaches the tenant's stream (R125, R194). -/
def State.readSlot (t : Tenant) (slot : InSlot) (s : State) : State :=
  if !slot.good || slot.owner.toNat != t.val || slot.payload.length < slot.carry then s.huntStream t
  else
    let rest := slot.payload.drop slot.carry
    match s.inStream t with
    | .hunting => s.readHunting t rest
    | .collecting none =>
      if slot.carry = 0 then State.readLabels t slot.payload.length slot.payload s
      else (s.huntStream t).readHunting t rest
    | .collecting (some f) =>
      if slot.carry = min (f.length - f.bytes.length) slot.payload.length then
        let (s1, granted) := s.storeBytes t f (slot.payload.take slot.carry)
        if granted then State.readLabels t slot.payload.length rest s1 else s1
      else (s.huntStream t).readHunting t rest

/-! ### Reading superframes (R123) -/

/-- The owners of a carrier's slots in slot order. -/
def expandRuns (runs : List Run) : List SlotOwner := runs.flatMap fun r => List.replicate r.count r.owner

/-- The slots of an inbound superframe are read by their plan owners (R123). -/
def State.readSlots : List (SlotOwner × InSlot) → State → State
  | [], s => s
  | (.tenant t, slot) :: rest, s => State.readSlots rest (s.readSlot t slot)
  | (.test, _) :: rest, s => State.readSlots rest s
  | (.idle, _) :: rest, s => State.readSlots rest s

/-- The payloads of the good TEST slots in slot order (R123, R172). The owner byte of a slot at a TEST position is not read
(R194, log entry 50). -/
def testPayloads : List (SlotOwner × InSlot) → List (List Byte)
  | [] => []
  | (.test, slot) :: rest => if slot.good then slot.payload :: testPayloads rest else testPayloads rest
  | (.tenant _, _) :: rest => testPayloads rest
  | (.idle, _) :: rest => testPayloads rest

/-- An inbound superframe is processed (R123). -/
def State.processSuperframe (c : Carrier) (m : InSuperframe) (s : State) : State :=
  let s1 :=
    match (s.ras.carriers.get c).last with
    | none => s
    | some l => if m.far = l + 1 then s else s.huntAll
  let s2 :=
    match s1.shc.history.find? fun p => p.edition == m.edition with
    | none => s1.huntAll.onRasCarrier c fun r => { r with planMiss := r.planMiss + 1 }
    | some plan =>
      match plan.runs.get c with
      | none => s1.huntAll.onRasCarrier c fun r => { r with planMiss := r.planMiss + 1 }
      | some runs =>
        if (plan.profile.get c).val ≠ m.profile.toNat then
          (allTenants.foldl
            (fun (s : State) (t : Tenant) =>
              if runs.any fun (r : Run) => r.owner == SlotOwner.tenant t then s.huntStream t else s) s1).onRasCarrier c
            fun r => { r with profileMiss := r.profileMiss + 1 }
        else
          let owned := (expandRuns runs).zip m.slots
          (State.readSlots owned s1).readEchoes c m.t4 m.residence (testPayloads owned)
  s2.onRasCarrier c fun r => { r with last := some m.far }

/-! ### The order of the two carriers (R124) -/

/-- Carrier A can still bring its superframe: it is not OFF and its receive state is SYNC or FLYWHEEL (R124). -/
def State.carrierAFollows (s : State) : Bool :=
  s.cfr.a.tx != .off && (s.cfr.a.rx == .sync || s.cfr.a.rx == .flywheel)

/-- Carrier A's superframe of the same number is judged lost and carrier B's is processed (R124). -/
def State.processJudged (m : InSuperframe) (s : State) : State :=
  (s.onRas fun r => { r with judgedLost := r.judgedLost ++ [m.far] }).huntAll.processSuperframe .b m

/-- A waiting superframe of carrier B is processed under the judgement (R124, events 2 to 6). -/
def State.processWaiting (s : State) : State :=
  match s.ras.waiting with
  | none => s
  | some (m, _) => (s.onRas fun r => { r with waiting := none }).processJudged m

/-- A superframe of carrier A is handed over (R124). -/
def State.handOverA (m : InSuperframe) (s : State) : State :=
  if s.ras.judgedLost.contains m.far then
    (s.onRasCarrier .a fun r => { r with late := r.late + 1 }).onRas fun r =>
      { r with judgedLost := r.judgedLost.filter fun j => j != m.far }
  else
    let s1 := (s.processSuperframe .a m).onRas fun r =>
      { r with judgedLost := r.judgedLost.filter fun j => !atOrAfter m.far j }
    match s1.ras.waiting with
    | none => s1
    | some (w, _) =>
      if w.far = m.far then (s1.onRas fun r => { r with waiting := none }).processSuperframe .b w else s1

/-- Carrier A has already gone past superframe `m` (R124). -/
def lateForB (lastA : Option Word) (m : Word) : Bool :=
  match lastA with
  | none => false
  | some l => l != m && atOrAfter l m

/-- A superframe of carrier B is handed over (R124). -/
def State.handOverB (m : InSuperframe) (s : State) : State :=
  let s1 := s.processWaiting
  let lastA := s1.ras.carriers.a.last
  if lateForB lastA m.far then s1.onRasCarrier .b fun r => { r with late := r.late + 1 }
  else if lastA = some m.far then s1.processSuperframe .b m
  else if !s1.carrierAFollows then s1.processJudged m
  else s1.onRas fun r => { r with waiting := some (m, s1.tbs.advance) }

/-- An accepted superframe is handed over (R32, R124). -/
def State.handOver (c : Carrier) (m : InSuperframe) (s : State) : State :=
  match c with
  | .a => s.handOverA m
  | .b => s.handOverB m

/-- A framer tells of a lost far superframe (R32, R124). While a superframe of carrier B waits, a notice of any other than
carrier A's superframe of its number does nothing (log entry 66). -/
def State.lostNotice (c : Carrier) (far : Word) (s : State) : State :=
  match s.ras.waiting with
  | none => s.huntAll
  | some (w, _) => if c = .a ∧ w.far = far then s.processWaiting else s

/-- The wait of carrier B's superframe has lasted 1 ms of counter advance (R124). -/
def State.waitExpired (s : State) : Bool :=
  match s.ras.waiting with
  | none => false
  | some (_, since) => decide (since + nsUnits 1000000 ≤ s.tbs.advance)

/-- CARRIER_B_WAIT_EXPIRY (R124, event 5): the wait ends when it has lasted its millisecond. A superframe that began to wait
since has a millisecond of its own. -/
def State.endWait (s : State) : State := if s.waitExpired then s.processWaiting else s

end Sys2Proof.Machine
end

