-- ==== Sys2Proof/Machine/Carriers.lean ====
section
/-! DEFINITION. Transmit and receive states of the carrier framers (sections 2.5 to 2.7). -/

namespace Sys2Proof.Machine

/-- The transmit state changes; CARRIER is added when it differs (R47). -/
def State.setTx (c : Carrier) (st : TxState) (s : State) : State :=
  if (s.cfr.get c).tx = st then s else (s.onFramer c fun f => { f with tx := st }).addEvent .carrier

/-- The receive state changes; CARRIER is added when it differs (R47). -/
def State.setRx (c : Carrier) (st : RxState) (s : State) : State :=
  if (s.cfr.get c).rx = st then s else (s.onFramer c fun f => { f with rx := st }).addEvent .carrier

/-- SYNC and FLYWHEEL count as synchronised (R43). -/
def RxState.synchronised : RxState → Bool
  | .sync | .flywheel => true
  | .hunt | .verify => false

/-- A loss of receive sync (R40): every stream goes to HUNTING (R128), a superframe of carrier B that waits for carrier A
is processed (R124), and a test on the carrier ends (R169). -/
def State.lossOfSync (c : Carrier) (s : State) : State :=
  let s1 := s.huntAll
  let s2 := if c = .a then s1.processWaiting else s1
  s2.testLinkLoss c

/-- The receive machine returns to HUNT; from SYNC or FLYWHEEL that is a loss of receive sync (R40). -/
def State.toHunt (c : Carrier) (s : State) : State :=
  let was := (s.cfr.get c).rx
  let s1 := (s.setRx c .hunt).onFramer c fun f => { f with run := 0, misses := 0 }
  if was.synchronised then s1.lossOfSync c else s1

/-- Entry of a transmit state to OFF (R37, R42, R46, R64, R122, R124, R169). -/
def State.enterOff (c : Carrier) (s : State) : State :=
  let s1 := (s.setTx c .off).onRasCarrier c fun r => { r with last := none }
  let s2 := if c = .b then s1.onRas fun r => { r with waiting := none } else s1
  let s3 := s2.onAdapt c Adaptation.clearAtOff
  let s4 := s3.onFramer c fun f => { f with farSync := none, departures := [], heldOut := none, heldIn := none }
  let s5 := s4.toHunt c
  let s6 := if c = .a then s5.processWaiting else s5
  s6.sweepCarrierOff c

/-- The last planned superframe of a carrier stopped now (R37), by the superframe in progress (log entry 68). -/
def State.lastPlannedNow (s : State) : Word :=
  if s.tbs.planDone then s.tbs.superframe + 1 else s.tbs.superframe

/-- What a CARRIER_STOP does to its carrier (R37, R38): STARTING becomes OFF, RUNNING becomes DRAINING and a test on it
ends (R169). -/
def State.stopCarrier (c : Carrier) (s : State) : State :=
  match (s.cfr.get c).tx with
  | .off | .draining => s
  | .starting => s.enterOff c
  | .running =>
    ((s.setTx c .draining).onFramer c fun f => { f with lastPlanned := s.lastPlannedNow }).testLinkLoss c

/-- CARRIER_START (R35). -/
def State.carrierStart (sheet : SheetIx) (params : List Word) (s : State) : State :=
  match required params 0 s.decodeCarrier with
  | none => s.answer sheet .badParameter []
  | some c =>
    match (s.cfr.get c).tx with
    | .off => ((s.setTx c .starting).setRx c .hunt).answer sheet .done []
    | .starting | .running => s.answer sheet .done []
    | .draining => s.answer sheet .busy []

/-- CARRIER_STOP (R37). Its answer is handed over behind that of a test which the stop ends (log entry 70). -/
def State.carrierStop (sheet : SheetIx) (params : List Word) (s : State) : State :=
  match required params 0 s.decodeCarrier with
  | none => s.answer sheet .badParameter []
  | some c => (s.stopCarrier c).answer sheet .done []

/-- The superframe now starting lies after the last planned one of a DRAINING carrier: it is header-only (R37). -/
def headerOnly (f : Framer) (n : Word) : Bool :=
  f.tx == .draining && n != f.lastPlanned && atOrAfter n f.lastPlanned

/-- A drain ends at the start of the superframe after the sixteenth header-only one (R37). -/
def State.drainDue (s : State) (c : Carrier) : Bool :=
  let f := s.cfr.get c
  f.tx == .draining && atOrAfter s.nowStarting (f.lastPlanned + 17)

/-- DRAIN_END (R37). -/
def State.drainEnd (c : Carrier) (s : State) : State := if s.drainDue c then s.enterOff c else s

/-- Far sync is reported on a carrier in the superframe in progress (R42), which up to the SUPERFRAME_START of a start already
reached is the one before (R184, log entry 68). -/
def State.farSyncReported (s : State) (c : Carrier) : Bool :=
  match (s.cfr.get c).farSync with
  | none => false
  | some m => decide ((s.tbs.superframe - m).toNat < 16)

/-- A carrier is fitted: carrier A always, carrier B by its strap (chapter 0, R3). -/
def State.fitted (s : State) : Carrier → Bool
  | .a => true
  | .b => s.shi.carrierBFitted

/-- A carrier is usable for the plans of the plan point now taken (R43). -/
def State.usable (s : State) (c : Carrier) : Bool :=
  s.fitted c && (s.cfr.get c).tx == .running && (s.cfr.get c).rx.synchronised && s.farSyncReported c

/-- The superframe of the current expected number is lost: the Reassembler is told (R32). -/
def State.headerLost (c : Carrier) (s : State) : State :=
  if (s.cfr.get c).rx.synchronised then s.lostNotice c (s.cfr.get c).expected else s

/-- A BAD header or a miss in SYNC or FLYWHEEL (R40). -/
def State.missCounted (c : Carrier) (s : State) : State :=
  let f := s.cfr.get c
  let s1 := s.onFramer c fun f => { f with expected := f.expected + 1, misses := if f.rx = .sync then 1 else f.misses + 1 }
  if f.rx = .sync then s1.setRx c .flywheel else if 4 ≤ f.misses + 1 then s1.toHunt c else s1

/-- The receive machine on a BAD header or a miss (R39, R40). -/
def State.receiveBad (c : Carrier) (s : State) : State :=
  match (s.cfr.get c).rx with
  | .hunt => s
  | .verify => s.toHunt c
  | .sync | .flywheel => (s.headerLost c).missCounted c

/-- A STARTING carrier whose receive machine reaches SYNC becomes RUNNING (R36). -/
def State.startedToRunning (c : Carrier) (s : State) : State :=
  if (s.cfr.get c).tx = .starting then s.setTx c .running else s

/-- The receive machine on a GOOD header numbered `n` (R39, R40); `true` in the result when the header is accepted. -/
def State.receiveGood (c : Carrier) (n : Word) (s : State) : State × Bool :=
  let f := s.cfr.get c
  match f.rx with
  | .hunt => ((s.onFramer c fun f => { f with run := 1, expected := n + 1 }).setRx c .verify, false)
  | .verify =>
    if n = f.expected then
      let s1 := s.onFramer c fun f => { f with run := f.run + 1, expected := f.expected + 1 }
      if 3 ≤ f.run + 1 then ((s1.setRx c .sync).startedToRunning c, true) else (s1, false)
    else (s.onFramer c fun f => { f with run := 1, expected := n + 1 }, false)
  | .sync | .flywheel =>
    if n = f.expected then
      ((s.onFramer c fun f => { f with expected := f.expected + 1, misses := 0 }).setRx c .sync, true)
    else ((s.headerLost c).toHunt c, false)

/-- The miss timer of a carrier has expired (R34). -/
def State.missReached (s : State) (c : Carrier) : Bool :=
  match (s.cfr.get c).missAt with
  | none => false
  | some t => decide (t ≤ s.tbs.advance)

/-- A miss (R34), when the timer has expired: counted and taken by the receive machine in VERIFY, SYNC and FLYWHEEL; the
timer runs on in every state. A delivery taken first has restarted the timer, and there is no miss. -/
def State.missed (c : Carrier) (s : State) : State :=
  if s.missReached c then
    let f := s.cfr.get c
    let s1 := s.onFramer c fun f => { f with missAt := f.missAt.map fun t => t + nsUnits 1000000 }
    if f.tx = .off ∨ f.rx = .hunt then s1
    else (s1.onFramer c fun f => { f with headerErrors := f.headerErrors + 1 }).receiveBad c
  else s

end Sys2Proof.Machine
end

