-- ==== Sys2Proof/Machine/Tenants.lean ====
section
/-! DEFINITION. The Contract Table and the site phases (chapters 5 and 11). -/

namespace Sys2Proof.Machine

/-! ### Contracts (R81 to R83) -/

/-- The clamping of a contract (R82). -/
def clampContract (k : Contract) : Contract :=
  let c := min k.committed 114688
  { k with committed := c, weight := min k.weight 255, peak := max c (min k.peak 114688) }

/-- TENANT_SET (R82, R83): checks, creation or change, clamping, then the admission event and the class comparison. -/
def State.tenantSet (sheet : SheetIx) (params : List Word) (s : State) : State :=
  match required params 0 (decodeIndex 8) with
  | none => s.answer sheet .badParameter []
  | some t =>
    let k := s.contract t
    let base := if k.state = .vacant then Contract.reset else k
    match given params 1 decodeCount base.committed, given params 2 decodeCount base.weight,
        given params 3 decodeCount base.peak, given params 4 decodeClass base.requirement,
        given params 5 (decodeIndexOrNone 16) base.verdict with
    | some c, some w, some p, some requirement, some verdict =>
      if k.state = .retiring then s.answer sheet .busy []
      else if k.state ≠ .vacant ∧ params.length ≤ 1 then s.answer sheet .done []
      else
        let raw := { base with committed := c, weight := w, peak := p, requirement := requirement, verdict := verdict }
        let new := clampContract raw
        let s1 := s.onContract t fun _ => new
        let s2 := if k.state = .vacant then s1.setTenant t .pending else s1
        ((s2.offerAdmission t).compareClass t).answer sheet (if new = raw then .done else .adjusted) []
    | _, _, _, _, _ => s.answer sheet .badParameter []

/-! ### Retirement (R87 to R92) -/

/-- The owner of every channel and the tenant of every port that names the tenant become NONE (R71, R90). -/
def State.clearNaming (t : Tenant) (s : State) : State :=
  s.onPqu fun q =>
    { q with
      channels := tableMap (fun _ e => if e.owner = some t then { e with owner := none } else e) q.channels
      ports := tableMap (fun _ e => if e.tenant = some t then { e with tenant := none } else e) q.ports }

/-- A tenant reaches VACANT (R90). -/
def State.vacate (t : Tenant) (s : State) : State :=
  (((s.setTenant t .vacant).onContract t fun _ => .reset).clearNaming t).huntStream t

/-- A RETIRING tenant with every channel empty becomes VACANT (R89). -/
def State.retirementTest (t : Tenant) (s : State) : State :=
  if (s.contract t).state = .retiring ∧ s.channelsEmpty t then s.vacate t else s

/-- Retirement with purge no (R87). -/
def State.retire (t : Tenant) (s : State) : State :=
  match (s.contract t).state with
  | .vacant => s.clearNaming t
  | .pending => s.vacate t
  | .admitted | .held => (s.setTenant t .retiring).retirementTest t
  | .retiring => s

/-- Retirement with purge yes (R88). -/
def State.retirePurge (t : Tenant) (s : State) : State :=
  match (s.contract t).state with
  | .vacant => s.clearNaming t
  | .pending | .retiring => ((s.notePurge t).purge t).vacate t
  | .admitted | .held => (((s.notePurge t).setTenant t .retiring).purge t).vacate t

/-- Every tenant that is not VACANT is retired with purge no (R91). -/
def State.retireAll (s : State) : State :=
  allTenants.foldl (fun s t => if (s.contract t).state = .vacant then s else s.retire t) s

/-- Every tenant still RETIRING is retired with purge yes (R92). -/
def State.purgeRetiring (s : State) : State :=
  allTenants.foldl (fun s t => if (s.contract t).state = .retiring then s.retirePurge t else s) s

/-! ### Entries to phases (R184 to R188) -/

def State.setPhase (p : Phase) : State → State := State.onPhc fun h => { h with phase := p }

/-- Entry to SETUP (R186, R188): from WIND_DOWN the RETIRING tenants are purged; each carrier acts as on a CARRIER_STOP. -/
def State.enterSetup (s : State) : State :=
  let s1 := s.setPhase .setup
  let s2 := if s.phc.phase = .windDown then s1.purgeRetiring else s1
  (s2.stopCarrier .a).stopCarrier .b

/-- All eight tenants are VACANT (R187, R188). -/
def State.allVacant (s : State) : Bool := allTenants.all fun t => (s.contract t).state == .vacant

/-- The automatic return to SETUP at the end of an event in WIND_DOWN (R188). -/
def State.autoReturn (s : State) : State :=
  if s.phc.phase = .windDown ∧ s.allVacant then s.enterSetup else s

/-- Entry to a phase (R184 to R188). -/
def State.enterPhase (p : Phase) (s : State) : State :=
  match p with
  | .setup => s.enterSetup
  | .align | .commission => s.setPhase p
  | .service => (s.setPhase .service).admissionEvent
  | .windDown => ((s.setPhase .windDown).retireAll).autoReturn

/-- TENANT_RETIRE (R87, R88). Its own answer is handed over behind that of a test which the automatic return ends (R188, log
entry 70). -/
def State.tenantRetire (sheet : SheetIx) (params : List Word) (s : State) : State :=
  match required params 0 (decodeIndex 8), given params 1 decodeSwitch false with
  | some t, some purge => ((if purge then s.retirePurge t else s.retire t).autoReturn).answer sheet .done []
  | _, _ => s.answer sheet .badParameter []

/-! ### The PHASE order (R183) -/

/-- Some fitted carrier is in SYNC with far sync reported on it (R184). -/
def State.linkProved (s : State) : Bool :=
  [Carrier.a, Carrier.b].any fun c => s.fitted c && (s.cfr.get c).rx == .sync && s.farSyncReported c

/-- An out-of-service test is running (R185). -/
def State.outOfServiceRunning (s : State) : Bool :=
  match s.tru.running with
  | none => false
  | some r => r.kind.outOfService

/-- The judgement of a PHASE order by current phase and target (R183 to R185). -/
def State.judgePhase (s : State) (target : Phase) (flag : Option FlagIx) : AnswerCode :=
  if target = s.phc.phase then .done
  else
    match s.phc.phase, target with
    | .setup, .align => .done
    | .align, .setup => .done
    | .align, .commission => if s.linkProved then .done else .notReady
    | .commission, .service =>
      if s.outOfServiceRunning then .busy
      else if s.tsv.timingClass.atLeast .frequency && s.gateFor flag then .done
      else .notReady
    | .service, .windDown => .done
    | .windDown, .setup => .done
    | _, _ => .wrongPhase

/-- The NONE code, or an index (section 12.1). -/
def indexWord {n : Nat} (i : Option (Fin n)) : Word :=
  match i with
  | none => noneWord
  | some i => BitVec.ofNat 32 i.val

/-- The words of a PHASE answer (R183); the class is that at the taking. -/
def State.phaseWords (s : State) (taken : TimingClass) : List Word :=
  [BitVec.ofNat 32 s.phc.phase.code, indexWord s.phc.gateFlag, if s.phc.gateOpen then 1 else 0,
    BitVec.ofNat 32 taken.code]

/-- PHASE (R183). Its answer is handed over behind that of a test which the move ends (log entry 70). -/
def State.phaseOrder (sheet : SheetIx) (params : List Word) (s : State) : State :=
  match required params 0 decodePhase, given params 1 (decodeIndexOrNone 16) s.phc.gateFlag with
  | some target, some flag =>
    let code := s.judgePhase target flag
    if code = .done then
      let s1 := (s.onPhc fun p => { p with gateFlag := flag }).recomputeGate
      let s2 := if target = s.phc.phase then s1 else s1.enterPhase target
      s2.answer sheet .done (s2.phaseWords s.tsv.timingClass)
    else s.answer sheet code (s.phaseWords s.tsv.timingClass)
  | _, _ => s.answer sheet .badParameter (s.phaseWords s.tsv.timingClass)

end Sys2Proof.Machine
end

