-- ==== Sys2Proof/Machine/Plan.lean ====
section
/-! DEFINITION. The share computation and the slot plan (chapter 6). -/

namespace Sys2Proof.Machine

/-- A direction of the hop. -/
inductive Way where
  | outbound
  | inbound
  deriving DecidableEq, Repr

/-! ### Inputs (R96 to R100) -/

/-- The standing of a carrier for a direction (R97): no run list, all IDLE, all TEST, open with `k` test slots at payload
`bytes`, or closed with `k` test slots. -/
inductive Standing where
  | absent
  | idle
  | test
  | opened (k bytes : Nat)
  | closed (k : Nat)
  deriving DecidableEq, Repr

/-- p(c, d): the profile committed for the next superframe (R97). That it is P0 where none is committed, for a carrier that
was started between the profile point and the plan point, and that the plan records P0 for it then (R110), is the model's
choice (log entry 73). -/
def State.planProfile (s : State) (w : Way) (c : Carrier) : Profile :=
  match w with
  | .outbound => (s.lau.get c).outbound.cur
  | .inbound => (s.lau.get c).inbound.cur

/-- k(c): the test slots of a carrier under requirement (2) of R98. -/
def Requirement.count : Requirement → Nat
  | .none | .whole => 0
  | .slots k => k

/-- R97. -/
def State.standing (s : State) (w : Way) (c : Carrier) : Standing :=
  let k := (s.tru.holdings.get c).requirement.count
  if !s.fitted c then .absent
  else
    match (s.cfr.get c).tx with
    | .off => .absent
    | .starting | .draining => .idle
    | .running =>
      if (s.tru.holdings.get c).requirement = .whole then .test
      else if s.usable c && s.admitted c (s.planProfile w c) then .opened k (s.payload c (s.planProfile w c))
      else .closed k

/-- A participant of a plan (R99, R100): what it offers, and the grant as the stages give it. `eligible` says that it still
takes part in the rounds of stage 3. -/
structure Participant where
  tenant : Tenant
  committed : Nat
  weight : Nat
  peak : Nat
  demand : Nat
  debt : Nat
  grant : Nat
  eligible : Bool
  deriving DecidableEq, Repr

/-- ADMITTED, HELD and RETIRING tenants take part (R93, R99). -/
def TenantState.participates : TenantState → Bool
  | .admitted | .held | .retiring => true
  | .vacant | .pending => false

/-- The demand of a tenant (R100). -/
def State.demandFor (s : State) (w : Way) (t : Tenant) : Nat :=
  match w with
  | .outbound => s.outboundDemand t
  | .inbound => 64 * s.shc.demand[t].toNat

/-- The debt of a tenant (R94). -/
def Contract.debt (k : Contract) : Way → Nat
  | .outbound => k.debtOut
  | .inbound => k.debtIn

/-- The participants of a plan in index order (R99). -/
def State.participants (s : State) (w : Way) : List Participant :=
  if s.phc.phase = .service ∨ s.phc.phase = .windDown then
    (allTenants.filter fun t => (s.contract t).state.participates).map fun t =>
      let k := s.contract t
      { tenant := t
        committed := if k.state = .admitted then k.committed else 0
        weight := k.weight
        peak := k.peak
        demand := s.demandFor w t
        debt := k.debt w
        grant := 0
        eligible := false }
  else []

/-! ### Stages 1 to 3 (R101 to R104) -/

/-- The data slots of a standing, each with its payload (R107). -/
def Standing.dataSlots (c : Carrier) : Standing → List (Carrier × Nat)
  | .opened k bytes => List.replicate (128 - k) (c, bytes)
  | .absent | .idle | .test | .closed _ => []

/-- The bytes of data slots. -/
def slotBytes (slots : List (Carrier × Nat)) : Nat := (slots.map (·.2)).sum

/-- Stage 2: the committed parts, scaled when their sum exceeds `a` (R102). -/
def committedParts (a : Nat) (ps : List Participant) : List Participant :=
  let total := (ps.map fun p => min p.committed p.demand).sum
  ps.map fun p =>
    let g := min p.committed p.demand
    { p with grant := if a < total then g * a / total else g }

/-- A participant's residual before stage 3 (R103). -/
def Participant.residual (p : Participant) : Nat := min p.demand p.peak - p.grant

/-- Stage 3, the rounds (R103). -/
def excessRounds : Nat → Nat → List Participant → List Participant
  | 0, _, ps => ps
  | fuel + 1, left, ps =>
    let weights := ((ps.filter fun p => p.eligible).map fun p => p.weight).sum
    let share (p : Participant) : Nat := left * p.weight / weights
    let capped (p : Participant) : Bool := p.eligible && decide (p.residual ≤ share p)
    if left = 0 ∨ !(ps.any fun p => p.eligible) then ps
    else if ps.any capped then
      excessRounds fuel (left - ((ps.filter capped).map Participant.residual).sum)
        (ps.map fun p => if capped p then { p with grant := p.grant + p.residual, eligible := false } else p)
    else ps.map fun p => if p.eligible then { p with grant := p.grant + share p } else p

/-- The sum of grants. -/
def grantSum (ps : List Participant) : Nat := (ps.map fun p => p.grant).sum

/-- Stages 2 and 3: the grants of a plan with `a` available bytes (R102 to R104). -/
def grants (a : Nat) (ps : List Participant) : List Participant :=
  let parts := committedParts a ps
  excessRounds 9 (a - grantSum parts)
    (parts.map fun p => { p with eligible := decide (0 < p.residual) && decide (0 < p.weight) })

/-! ### Stages 4 and 5 (R105 to R107) -/

/-- Rotation order: from the tenant the pointer names upward, wrapping (R106). -/
def rotation (pointer : Fin 8) (ps : List Participant) : List Participant :=
  (ps.filter fun p => decide (pointer ≤ p.tenant)) ++ ps.filter fun p => decide (p.tenant < pointer)

/-- The next data slots taken while the bytes assigned are below the target: the carriers of the slots taken, the bytes
assigned, and the slots left (R107). -/
def takeSlots (target : Nat) : List (Carrier × Nat) → Nat → List Carrier × Nat × List (Carrier × Nat)
  | [], got => ([], got, [])
  | (c, bytes) :: rest, got =>
    if target ≤ got then ([], got, (c, bytes) :: rest)
    else
      let (taken, total, left) := takeSlots target rest (got + bytes)
      (c :: taken, total, left)

/-- What stages 4 and 5 give one participant: its new debt, its target and the carriers of its slots. -/
structure Assigned where
  tenant : Tenant
  grant : Nat
  target : Nat
  debt : Nat
  slots : List Carrier
  deriving DecidableEq, Repr

/-- Stages 4 and 5 with capacity, in rotation order: what each participant gets, and the slots left (R105, R107). -/
def assignSlots : List Participant → List (Carrier × Nat) → List Assigned × List (Carrier × Nat)
  | [], slots => ([], slots)
  | p :: rest, slots =>
    if p.demand = 0 then
      let (more, left) := assignSlots rest slots
      (⟨p.tenant, p.grant, 0, 0, []⟩ :: more, left)
    else if p.grant ≤ p.debt then
      let (more, left) := assignSlots rest slots
      (⟨p.tenant, p.grant, 0, p.debt - p.grant, []⟩ :: more, left)
    else
      let target := p.grant - p.debt
      let (taken, got, after) := takeSlots target slots 0
      let (more, left) := assignSlots rest after
      (⟨p.tenant, p.grant, target, if target ≤ got then got - target else 0, taken⟩ :: more, left)

/-! ### Run lists (R108) -/

/-- One more slot of an owner in front of a run list. -/
def consRun (o : SlotOwner) (runs : List Run) : List Run :=
  match runs with
  | [] => [⟨o, 1⟩]
  | r :: rest => if r.owner = o then ⟨o, r.count + 1⟩ :: rest else ⟨o, 1⟩ :: r :: rest

/-- The run list of slot owners in slot order. -/
def runsOf (owners : List SlotOwner) : List Run := owners.foldr consRun []

/-- The slots of a run list. -/
def runSlots (runs : List Run) : Nat := (runs.map fun r => r.count).sum

/-- The owners of a carrier's data slots: each tenant's stretch, then IDLE (R107, R108). -/
def dataOwners (c : Carrier) (assigned : List Assigned) (left : List (Carrier × Nat)) : List SlotOwner :=
  (assigned.flatMap fun x => (x.slots.filter fun d => d == c).map fun _ => SlotOwner.tenant x.tenant)
    ++ (left.filter fun d => d.1 == c).map fun _ => SlotOwner.idle

/-- The run list of a carrier by its standing (R97, R108). -/
def Standing.runs (st : Standing) (owners : List SlotOwner) : Option (List Run) :=
  match st with
  | .absent => none
  | .idle => some [⟨.idle, 128⟩]
  | .test => some [⟨.test, 128⟩]
  | .opened k _ => some (runsOf (owners ++ List.replicate k SlotOwner.test))
  | .closed k => some (runsOf (List.replicate (128 - k) SlotOwner.idle ++ List.replicate k SlotOwner.test))

/-! ### The plan of a direction -/

/-- What the computation of a direction gives: the available bytes, the participants with their grants, what stages 4 and 5
gave, and the run lists. -/
structure DirectionPlan where
  available : Nat
  granted : List Participant
  assigned : List Assigned
  runs : PerCarrier (Option (List Run))
  deriving DecidableEq, Repr

/-- The rotation pointer of a direction (R106). -/
def State.pointer (s : State) : Way → Fin 8
  | .outbound => s.shc.pointerOut
  | .inbound => s.shc.pointerIn

/-- The five stages for a direction (R96 to R108). With no available bytes stage 4 is not applied: every participant keeps
its debt and takes no slots (R105). -/
def State.planDirection (s : State) (w : Way) : DirectionPlan :=
  let sa := s.standing w .a
  let sb := s.standing w .b
  let slots := sa.dataSlots .a ++ sb.dataSlots .b
  let a := slotBytes slots
  let granted := grants a (s.participants w)
  let (assigned, left) :=
    if a = 0 then (granted.map fun p => (⟨p.tenant, p.grant, 0, p.debt, []⟩ : Assigned), slots)
    else assignSlots (rotation (s.pointer w) granted) slots
  { available := a
    granted := granted
    assigned := assigned
    runs := { a := sa.runs (dataOwners .a assigned left), b := sb.runs (dataOwners .b assigned left) } }

/-- The entry of a tenant among what stages 4 and 5 gave. -/
def DirectionPlan.assignedTo (p : DirectionPlan) (t : Tenant) : Option Assigned :=
  p.assigned.find? fun x => x.tenant == t

/-- The entry of a tenant among the participants. -/
def DirectionPlan.grantedTo (p : DirectionPlan) (t : Tenant) : Option Participant :=
  p.granted.find? fun x => x.tenant == t

/-- The debt of a tenant after the plan: a tenant that did not take part keeps its own (R94). -/
def DirectionPlan.debtOf (p : DirectionPlan) (t : Tenant) (kept : Nat) : Nat :=
  match p.assignedTo t with
  | none => kept
  | some x => x.debt

/-- The grants, targets and tenants that took slots (R109). -/
def DirectionPlan.shares (p : DirectionPlan) : List PlanShare :=
  (p.assigned.filter fun x => !x.slots.isEmpty).map fun x => ⟨x.tenant, x.grant, x.target⟩

/-- The last 4 inbound plans (R111). -/
def historyAdd (history : List InPlan) (p : InPlan) : List InPlan :=
  (if history.length < 4 then history else history.drop (history.length - 3)) ++ [p]

/-- What a framer holds from the plan point: nothing in OFF (R28). -/
def Framer.holdPlan (f : Framer) (out inb : Option (List Run)) (edition : Word) : Framer :=
  if f.tx = .off then { f with heldOut := none, heldIn := none }
  else { f with heldOut := out, heldIn := inb, heldEdition := edition }

/-- The plan point (R28, R96 to R111). -/
def State.planPoint (s : State) : State :=
  let out := s.planDirection .outbound
  let inb := s.planDirection .inbound
  let n := s.tbs.superframe
  let plan : InPlan :=
    { edition := n, runs := inb.runs, profile := { a := s.planProfile .inbound .a, b := s.planProfile .inbound .b } }
  let shc : Shc :=
    { s.shc with
      contracts := tableMap (fun t k => { k with debtOut := out.debtOf t k.debtOut, debtIn := inb.debtOf t k.debtIn })
        s.shc.contracts
      last := tableMap (fun t _ =>
        { grantOut := ((out.grantedTo t).map (·.grant)).getD 0
          grantIn := ((inb.grantedTo t).map (·.grant)).getD 0
          demandOut := ((out.grantedTo t).map (·.demand)).getD 0
          demandIn := ((inb.grantedTo t).map (·.demand)).getD 0 }) s.shc.last
      pointerOut := s.shc.pointerOut + 1
      pointerIn := s.shc.pointerIn + 1
      nextPlan := some { runs := out.runs, shares := out.shares }
      history := historyAdd s.shc.history plan }
  { s with
    shc := shc
    cfr := { a := s.cfr.a.holdPlan out.runs.a inb.runs.a n, b := s.cfr.b.holdPlan out.runs.b inb.runs.b n }
    tbs := { s.tbs with planDone := true } }

end Sys2Proof.Machine
end

