-- ==== Sys2Proof/Machine/Fill.lean ====
section
/-! DEFINITION. Slot filling, aging, headers and the sending of superframes (sections 2.2, 2.3, 7.1, 12.6). -/

namespace Sys2Proof.Machine

/-! ### Aging (R116) -/

/-- The head frame of a channel is stale at superframe `n`: max age nonzero, age above it, not in progress (R116). -/
def State.headStale (s : State) (n : Word) (ch : Channel) : Bool :=
  match (s.channel ch).queue with
  | [] => false
  | f :: _ =>
    (s.channel ch).maxAge != 0 && (s.inProgressOn ch).isNone && decide ((s.channel ch).maxAge < (n - f.arrival).toNat)

/-- A removal of a frame from a channel of an owner: the owner is tested for retirement (R89). -/
def State.afterRemoval (owner : Option Tenant) (s : State) : State :=
  match owner with
  | none => s
  | some t => s.retirementTest t

/-- The stale head frames of one channel leave (R77, R116). -/
def State.ageChannel (n : Word) (ch : Channel) : Nat → State → State
  | 0, s => s
  | fuel + 1, s =>
    if s.headStale n ch then
      let owner := (s.channel ch).owner
      State.ageChannel n ch fuel
        ((s.removeHead ch fun e => { e with stale := e.stale + 1 }).afterRemoval owner)
    else s

/-- The aging of all channels at the superframe start in progress (R116), and the automatic return it may bring (R188). -/
def State.age (s : State) : State :=
  (hostChannels.foldl (fun s ch => State.ageChannel s.nowStarting ch (s.channel ch).queue.length s) s).autoReturn

/-! ### Streams (R118, R119) -/

/-- The channels of a priority in the order of their turns: after the last served one, wrapping from 62 to 0 (R119). -/
def turnOrder (last : Channel) : List Channel :=
  (hostChannels.filter fun ch => decide (last < ch)) ++ hostChannels.filter fun ch => decide (ch ≤ last)

/-- A channel may begin a frame in a tenant's stream at a priority (R119). -/
def State.canServe (s : State) (t : Tenant) (priority : Fin 4) (ch : Channel) : Bool :=
  (s.channel ch).owner == some t && (s.channel ch).priority == priority && !(s.channel ch).queue.isEmpty

/-- The choice of a channel for a new frame: the lowest priority number that has one, in turn (R119). -/
def State.chooseChannel (s : State) (t : Tenant) : Option (Fin 4 × Channel) :=
  ([0, 1, 2, 3] : List (Fin 4)).findSome? fun priority =>
    ((turnOrder (s.outStream t).lastServed[priority]).find? (s.canServe t priority)).map fun ch => (priority, ch)

/-- The last byte of a channel's head frame has been written: the record leaves, its cells return, the sent count rises and
the owner is tested for retirement (R76, R89, R118). -/
def State.frameSent (t : Tenant) (ch : Channel) (s : State) : State :=
  ((s.removeHead ch fun e => { e with sent := e.sent + 1 }).onOutStream t
    fun o => { o with inProgress := none }).afterRemoval (some t)

/-- New frames written into `room` bytes of a slot (R118, parts 2 and 3): the bytes written, without the fill behind
them. A label of length 0 is three bytes 00h, as fill is. `fuel` bounds the number of frames. -/
def State.writeFrames (t : Tenant) : Nat → Nat → State → List Byte × State
  | 0, _, s => ([], s)
  | fuel + 1, room, s =>
    if room < 3 then ([], s)
    else
      match s.chooseChannel t with
      | none => ([], s)
      | some (priority, ch) =>
        match (s.channel ch).queue with
        | [] => ([], s)
        | f :: _ =>
          let s1 := s.onOutStream t fun o => { o with lastServed := tableModify o.lastServed priority fun _ => ch }
          let label : List Byte := BitVec.ofNat 8 ch.val :: bigEndian 2 f.bytes.length
          let fits := room - 3
          if f.bytes.length ≤ fits then
            let (more, s2) := State.writeFrames t fuel (fits - f.bytes.length) (s1.frameSent t ch)
            (label ++ f.bytes ++ more, s2)
          else
            (label ++ f.bytes.take fits,
              s1.onOutStream t fun o => { o with inProgress := some (ch, f.bytes.length - fits) })

/-- One slot of a tenant's stream: its carry-over length and payload, filled up with 00h (R118). -/
def State.fillTenantSlot (t : Tenant) (payload : Nat) (s : State) : (Nat × List Byte) × State :=
  let fill (bytes : List Byte) : List Byte := bytes ++ List.replicate (payload - bytes.length) 0
  match (s.outStream t).inProgress with
  | none =>
    let (bytes, s1) := State.writeFrames t payload payload s
    ((0, fill bytes), s1)
  | some (ch, remaining) =>
    let frame := (((s.channel ch).queue.head?).map (·.bytes)).getD []
    let carried := (frame.drop (frame.length - remaining)).take (min remaining payload)
    if remaining ≤ payload then
      let (bytes, s1) := State.writeFrames t payload (payload - remaining) (s.frameSent t ch)
      ((remaining, fill (carried ++ bytes)), s1)
    else
      ((payload, fill carried), s.onOutStream t fun o => { o with inProgress := some (ch, remaining - payload) })

/-- A slot as it is sent: owner, carry-over length, payload and slot check (section 12.6). -/
def outSlot (owner : SlotOwner) (carry : Nat) (payload : List Byte) : List Byte :=
  withCheck (BitVec.ofNat 8 owner.code :: bigEndian 2 carry ++ payload)

/-- The slots of one carrier written in slot order (R117, R118, R120); `tests` are the contents the running test
supplies, in the order of the TEST slots. -/
def State.fillSlots (payload : Nat) : List SlotOwner → List (List Byte) → State → List (List Byte) × State
  | [], _, s => ([], s)
  | .tenant t :: rest, tests, s =>
    let (slot, s1) := s.fillTenantSlot t payload
    let (more, s2) := State.fillSlots payload rest tests s1
    (outSlot (.tenant t) slot.1 slot.2 :: more, s2)
  | .test :: rest, tests, s =>
    let (more, s1) := State.fillSlots payload rest tests.tail s
    (outSlot .test 0 (tests.head?.getD (List.replicate payload 0)) :: more, s1)
  | .idle :: rest, tests, s =>
    let (more, s1) := State.fillSlots payload rest tests s
    (outSlot .idle 0 (List.replicate payload 0) :: more, s1)

/-- The positions of the TEST slots among slot owners. -/
def testPositions (owners : List SlotOwner) : List Nat :=
  (List.range owners.length).filter fun j => owners[j]? == some .test

/-- The slots of one carrier for the superframe just started, when the current plan has a run list for it (R117); at P0 where
no profile is committed for it (log entry 73). -/
def State.fillCarrier (c : Carrier) (s : State) : Option (List (List Byte)) × State :=
  match s.shc.currentPlan with
  | none => (none, s)
  | some plan =>
    match plan.runs.get c with
    | none => (none, s)
    | some runs =>
      let payload := s.payload c (s.lau.get c).outbound.cur
      let owners := expandRuns runs
      let (tests, s1) := s.testContents c payload (testPositions owners)
      let (slots, s2) := State.fillSlots payload owners tests s1
      (some slots, s2)

/-! ### Headers and sending (R29, R44, R110, R193) -/

/-- Twelve pairs of (owner, count), unused pairs 0 (section 12.6). -/
def runBytes (runs : List Run) : List Byte :=
  let pairs := (runs.take 12).flatMap fun r => [BitVec.ofNat 8 r.owner.code, BitVec.ofNat 8 r.count]
  pairs ++ List.replicate (24 - pairs.length) 0

/-- What the header of one carrier says of the superframe (R29). -/
structure HeaderFields where
  outbound : Profile
  order : Profile
  outRuns : List Run
  inRuns : List Run
  edition : Word
  deriving DecidableEq, Repr

/-- A superframe of carrier `c` numbered `n` is a timing superframe (R44). -/
def timingSuperframe (c : Carrier) (n : Word) : Bool :=
  match c with
  | .a => n &&& 7 == 0
  | .b => n &&& 7 == 4

/-- The outbound header (R29, R193, section 12.6). -/
def State.headerBytes (s : State) (c : Carrier) (h : HeaderFields) : List Byte :=
  let n := s.tbs.superframe
  let timing := timingSuperframe c n
  let t1 : Stamp := if timing then s.now else { sec := 0, ns := 0 }
  withCheck
    (bigEndian 4 n.toNat
      ++ [BitVec.ofNat 8 h.outbound.val, BitVec.ofNat 8 h.order.val, BitVec.ofNat 8 (s.cfr.get c).rx.code,
          if (s.tru.holdings.get c).echo then 1 else 0, BitVec.ofNat 8 h.outRuns.length]
      ++ runBytes h.outRuns ++ [BitVec.ofNat 8 h.inRuns.length] ++ runBytes h.inRuns ++ bigEndian 4 h.edition.toNat
      ++ [if timing then 1 else 0, 0] ++ bigEndian 6 t1.sec.toNat ++ bigEndian 4 t1.ns)

/-- One run of 128 IDLE slots. -/
def idleRuns : List Run := [⟨.idle, 128⟩]

/-- The edition current at a superframe start: that of the last inbound plan (R29, R110). -/
def State.currentEdition (s : State) : Word := (s.shc.history.getLast?.map (·.edition)).getD 0

/-- The framer overrides profile, plans and slots: in STARTING, in a header-only superframe of DRAINING, and where it holds
no run list (R29, R117). -/
def State.overrides (s : State) (c : Carrier) : Bool :=
  let f := s.cfr.get c
  f.tx == .starting || headerOnly f s.tbs.superframe || f.heldOut.isNone || f.heldIn.isNone

/-- The fields of the header of the superframe just started (R29). Both profiles are P0 where none is committed for it (log
entry 73). -/
def State.headerFields (s : State) (c : Carrier) : HeaderFields :=
  let f := s.cfr.get c
  if s.overrides c then
    { outbound := 0, order := 0, outRuns := idleRuns, inRuns := idleRuns, edition := s.currentEdition }
  else
    { outbound := (s.lau.get c).outbound.cur
      order := (s.lau.get c).inbound.cur
      outRuns := f.heldOut.getD idleRuns
      inRuns := f.heldIn.getD idleRuns
      edition := f.heldEdition }

/-- 128 IDLE slots at P0 (R29). -/
def State.idleSlots (s : State) (c : Carrier) : List (List Byte) :=
  List.replicate 128 (outSlot .idle 0 (List.replicate (s.payload c 0) 0))

/-- The recorded profile of a carrier in the inbound plan of edition `n - 1` is set to the order the header of superframe
`n` carries (R110). -/
def recordProfile (c : Carrier) (p : Profile) (n : Word) : List InPlan → List InPlan
  | [] => []
  | x :: rest =>
    (if x.edition + 1 = n ∧ (x.runs.get c).isSome then { x with profile := x.profile.modify c fun _ => p } else x)
      :: recordProfile c p n rest

/-- A departure joins a Pending Departures list, which holds the last 4 (R44). -/
def departureAdd (list : List Departure) (d : Departure) : List Departure :=
  (if list.length < 4 then list else list.drop (list.length - 3)) ++ [d]

/-- A framer that is not OFF hands its modem the superframe just started (R29, R44, R110); `slots` are those the Slot
Filler wrote for it. -/
def State.sendSuperframe (c : Carrier) (slots : Option (List (List Byte))) (s : State) : State :=
  if (s.cfr.get c).tx = .off then s
  else
    let h := s.headerFields c
    let sent : OutSuperframe :=
      { header := s.headerBytes c h
        slots := if s.overrides c then s.idleSlots c else slots.getD (s.idleSlots c)
        profile := h.outbound }
    let s1 := s.emit (.superframe c sent)
    let s2 :=
      if timingSuperframe c s.tbs.superframe then
        s1.onFramer c fun f =>
          { f with departures := departureAdd f.departures ⟨s.tbs.superframe, s.now, h.outbound⟩ }
      else s1
    s2.onShc fun x => { x with history := recordProfile c h.order s.tbs.superframe x.history }

/-- The slots of both carriers are filled, then each framer sends (R29, R117). -/
def State.fillAndSend (s : State) : State :=
  let (slotsA, s1) := s.fillCarrier .a
  let (slotsB, s2) := s1.fillCarrier .b
  (s2.sendSuperframe .a slotsA).sendSuperframe .b slotsB

end Sys2Proof.Machine
end

