-- ==== Sys2Proof/Machine/Timing.lean ====
section
/-! DEFINITION. The Time Base and the Timing Servo (chapters 8 and 9). -/

namespace Sys2Proof.Machine

/-! ### Rounding (convention (3)) -/

/-- A quotient rounded to nearest, halves away from zero (R155). -/
def divNearest (x : Int) (d : Nat) : Int :=
  if 0 ≤ x then (2 * x + d).tdiv (2 * d) else -((2 * (-x) + d).tdiv (2 * d))

/-- The mean of rates rounded toward zero (R156). -/
def meanRate (history : List Int) : Int := history.sum.tdiv history.length

/-! ### The Time Counter (R129 to R133) -/

/-- The greatest rate adjustment (R130). -/
def rateLimit : Int := 25000000

/-- A rate command (R130). -/
def State.rateCommand (r : Int) : State → State :=
  State.onTbs fun t => { t with rate := clampInt (-rateLimit) rateLimit r }

/-- The units a tick adds at a rate: 8 × (1 + rate × 10^-12) ns (R129). -/
def tickUnits (rate : Int) : Nat := (524288 * (1000000000000 + rate)).toNat

/-- The nanoseconds, fraction and residue of the counter as units. -/
def Tbs.unitsInSecond (t : Tbs) : Nat := t.residue + 1000000000000 * (t.fraction + 65536 * t.ns)

/-- Units in a second. -/
def unitsPerSecond : Nat := nsUnits 1000000000

/-- The counter gains units, with carry (R129). -/
def Tbs.gain (t : Tbs) (units : Nat) : Tbs :=
  let total := t.unitsInSecond + units
  let inSecond := total % unitsPerSecond
  { t with
    sec := t.sec + BitVec.ofNat 48 (total / unitsPerSecond)
    ns := inSecond / unitsPerNs
    fraction := inSecond / 1000000000000 % 65536
    residue := inSecond % 1000000000000
    advance := t.advance + units }

/-- One tick of the local oscillator at the rate in force (R129). -/
def Tbs.tick (t : Tbs) : Tbs := t.gain (tickUnits t.rate)

/-- A number of ticks (R129). -/
def Tbs.ticks : Nat → Tbs → Tbs
  | 0, t => t
  | n + 1, t => Tbs.ticks n t.tick

/-- Steps are permitted by the site phase: not in SERVICE or WIND_DOWN (R132, R133). -/
def State.phaseAllowsSteps (s : State) : Bool :=
  match s.phc.phase with
  | .setup | .align | .commission => true
  | .service | .windDown => false

/-- Steps that belong to the superframe start in progress: a step of the counter taken before them puts that start off
(R27). -/
def ofStart : Instr → Bool
  | .superframeStart _ | .aging _ | .softRestart _ | .berDurationEnd _ | .noLoop _ | .delayCalTimeout _
  | .sweepSample _ _ | .drainEnd _ _ => true
  | .powerOnReset _ | .sheetBaseHiWrite _ _ | .sheetBaseLoWrite _ _ | .attentionWrite _ _ | .eventsRead _
  | .eventMaskWrite _ _ | .restartWrite _ _ | .registerWriteIgnored _ _ | .scan _ | .writeAnswer _
  | .busError _ _ _ | .standingRewrite _ _ | .phase _ _ | .carrierStart _ _ | .carrierStop _ _ | .profileSet _ _
  | .portSet _ _ | .channelSet _ _ | .tenantSet _ _ | .tenantRetire _ _ | .timingSet _ _ | .ppsSet _ _
  | .gnssLabel _ _ | .verdictSet _ _ | .test _ _ | .testStop _ _ | .standing _ _ | .read _ _ | .profilePoint _
  | .planPoint _ | .delivery _ _ _ | .miss _ _ | .carrierBWaitExpiry _ | .arrival _ _ _ _ | .halfSecondMark _
  | .wholeSecondMark _ | .timeCheckCompletion _ | .holdoverLimitExpiry _ | .gnssEdge _ | .ppsPulseInstant _ _
  | .ppsPulseEnd _ _ => false

/-- A superframe start reached and not yet taken is put off by a step (R27). The steps of that start already made stay made,
and are made again with the start that follows (log entry 54). Other instants and marks reached at the same tick stay due,
and are judged by the stepped counter (R131, R137, log entry 56). -/
def State.putOffStart (s : State) : State :=
  if s.tbs.starting then
    { s with due := s.due.filter fun c => !ofStart c, tbs := { s.tbs with starting := false } }
  else s

/-- The effects of an applied step besides the counter's new value (R27, R46, R132, R146, R177). -/
def State.afterStep (s : State) : State :=
  let s1 := s.putOffStart
  let s2 := s1.onTbs fun t => { t with stepAt := some t.advance }
  let s3 := (s2.onFramer .a fun f => { f with departures := [] }).onFramer .b fun f => { f with departures := [] }
  (s3.onTsv fun v => { v with linkCandidates := { a := none, b := none } }).testSeesStep

/-- The counter with a signed offset in nanoseconds added, the seconds wrapping modulo 2^48 (R132). -/
def Tbs.step (t : Tbs) (offset : Int) : Tbs :=
  let total := (t.ns : Int) + offset
  { t with sec := t.sec + BitVec.ofInt 48 (total.fdiv 1000000000), ns := (total.fmod 1000000000).toNat }

/-- A step command (R132): refused in SERVICE and WIND_DOWN. -/
def State.stepCommand (offset : Int) (s : State) : State :=
  if s.phaseAllowsSteps then (s.onTbs fun t => t.step offset).afterStep else s

/-- A seconds setting (R133): refused in SERVICE and WIND_DOWN. -/
def State.secondsSetting (v : Seconds) (s : State) : State :=
  if s.phaseAllowsSteps then (s.onTbs fun t => { t with sec := v }).afterStep else s

/-! ### The timing class (R157) -/

/-- The class of a timing state and a holdover history (section 9.5). -/
def classOf (st : TimingState) (history : List Int) : TimingClass :=
  match st with
  | .freerun => .none
  | .acquiring => if history.length = 64 then .frequency else .none
  | .locked => .phase
  | .holdover => .phase
  | .holdoverSpent => .frequency

/-- The class is recomputed; a change adds TIMING and is handed on (R157). -/
def State.refreshClass (s : State) : State :=
  let c := classOf s.tsv.state s.tsv.history
  if c = s.tsv.timingClass then s
  else ((s.onTsv fun v => { v with timingClass := c }).addEvent .timing).classChanged

/-- The timing state changes: TIMING is added; at entry to ACQUIRING from another state both counts become 0 (R151,
R152). -/
def State.setTimingState (st : TimingState) (s : State) : State :=
  if s.tsv.state = st then s
  else
    (s.onTsv fun v =>
      { v with
        state := st
        lockCount := if st = .acquiring then 0 else v.lockCount
        outCount := if st = .acquiring ∨ st = .locked then 0 else v.outCount }).addEvent .timing

/-! ### Samples (R144 to R146) -/

/-- A phase within the second, wrapped into -500,000,000 to +499,999,999 ns (R144). -/
def wrapHalfSecond (x : Int) : Int := (x + 500000000).emod 1000000000 - 500000000

/-- An exchange record (R45). -/
structure Exchange where
  carrier : Carrier
  t1 : Stamp
  t2 : Stamp
  t3 : Stamp
  t4 : Stamp
  outbound : Profile
  inbound : Nat
  deriving DecidableEq, Repr

/-- The offset and the mean path delay of a usable exchange record; none for one that is not usable (R145). -/
def State.judgeExchange (s : State) (x : Exchange) : Option LinkCandidate :=
  match s.delayOf x.carrier x.outbound.val, s.delayOf x.carrier x.inbound with
  | some dOut, some dIn =>
    let roundTrip := stampDiff x.t4 x.t1
    if 0 ≤ roundTrip ∧ roundTrip ≤ 10000000 then
      let out := stampDiff x.t2 x.t1
      let back := stampDiff x.t4 x.t3
      some ⟨(back - out + (dOut - dIn)).tdiv 2, (out + back).tdiv 2⟩
    else none
  | _, _ => none

/-- Of two candidates the one with the lesser delay, the earlier of two equal ones (R146). -/
def betterCandidate (held : Option LinkCandidate) (x : LinkCandidate) : Option LinkCandidate :=
  match held with
  | none => some x
  | some h => if x.pathDelay < h.pathDelay then some x else some h

/-- An exchange record reaches the servo (R145, R146). -/
def State.exchange (x : Exchange) (s : State) : State :=
  match s.judgeExchange x with
  | none => s
  | some cand =>
    s.onTsv fun v => { v with linkCandidates := v.linkCandidates.modify x.carrier fun held => betterCandidate held cand }

/-- The GNSS sample of a second (R144). -/
def Tsv.gnssSample (v : Tsv) : Option Int :=
  v.gnssCandidate.map fun c => wrapHalfSecond ((c.ns : Int) - (v.params.cableDelay : Int))

/-- The sample of a link source (R146). -/
def Tsv.linkSample (v : Tsv) (c : Carrier) : Option Int := (v.linkCandidates.get c).map (·.theta)

/-! ### Qualification and selection (R147, R148) -/

/-- A source's counts and qualification at a second's end (R147). -/
def SourceRecord.second (r : SourceRecord) (sampled : Bool) : SourceRecord :=
  if sampled then
    let n := min (r.withSample + 1) 8
    { r with withSample := n, withoutSample := 0, qualified := r.qualified || decide (n = 8) }
  else
    let n := min (r.withoutSample + 1) 4
    { r with withoutSample := n, withSample := 0, qualified := r.qualified && decide (n ≠ 4) }

/-- The record of a source. -/
def Tsv.source (v : Tsv) : Source → SourceRecord
  | .gnss => v.gnss
  | .linkA => v.linkA
  | .linkB => v.linkB

/-- The selected source: QUALIFIED, highest priority, not OFF, in the fixed order among equals (R148). -/
def Tsv.select (v : Tsv) : Option Source :=
  ([0, 1, 2] : List (Fin 3)).findSome? fun priority =>
    [Source.gnss, Source.linkA, Source.linkB].find? fun x =>
      (v.source x).qualified && (v.source x).priority == some priority

/-- The selection at a second's end (R148). -/
def State.selectSource (s : State) : State :=
  let x := s.tsv.select
  if x = s.tsv.selected then s
  else (s.onTsv fun v => { v with selected := x, lockCount := 0, outCount := 0 }).addEvent .timing

/-! ### States (R151 to R153) -/

/-- Entry to holdover or FREERUN with no source selected (R151, R153). -/
def State.loseSource (s : State) : State :=
  if s.tsv.history = [] then
    (s.setTimingState .freerun).rateCommand s.tsv.params.manualRate
  else
    ((s.setTimingState .holdover).onTsv fun v => { v with holdoverSince := some s.tbs.advance }).rateCommand
      (meanRate s.tsv.history)

/-- The counts and the state by the selected source's sample (R152). -/
def State.countSample (theta : Int) (s : State) : State :=
  let v := s.tsv
  match v.state with
  | .acquiring =>
    let n := if theta.natAbs ≤ v.params.lockWindow then min (v.lockCount + 1) 16 else 0
    let s1 := s.onTsv fun v => { v with lockCount := n }
    if n = 16 then s1.setTimingState .locked else s1
  | .locked =>
    let n := if v.params.stepThreshold < theta.natAbs then min (v.outCount + 1) 3 else 0
    let s1 := s.onTsv fun v => { v with outCount := n }
    if n = 3 then s1.setTimingState .acquiring else s1
  | .freerun | .holdover | .holdoverSpent => s

/-- The move of the timing state at a second's end; `theta` is the selected source's sample (R151). -/
def State.moveState (theta : Option Int) (s : State) : State :=
  match s.tsv.state, s.tsv.selected with
  | .freerun, none | .holdover, none | .holdoverSpent, none => s
  | .acquiring, none | .locked, none => s.loseSource
  | .freerun, some _ | .holdover, some _ | .holdoverSpent, some _ =>
    let s1 := (s.setTimingState .acquiring).onTsv fun v => { v with holdoverSince := none }
    match theta with
    | none => s1
    | some x => s1.countSample x
  | .acquiring, some _ | .locked, some _ =>
    match theta with
    | none => s
    | some x => s.countSample x

/-! ### The update (R154 to R156) -/

/-- A rate joins the holdover history, which holds 64 (R156). -/
def historyPush (history : List Int) (r : Int) : List Int :=
  (if history.length < 64 then history else history.drop (history.length - 63)) ++ [r]

/-- The rate update: the rate commanded and the integral term after it (R155). -/
def rateUpdate (p : ServoParams) (integral theta : Int) : Int × Int :=
  let threshold : Int := p.stepThreshold
  let x := if threshold < theta then threshold else if theta < -threshold then -threshold else theta
  let proportional := divNearest (x * 1000) (2 ^ p.kp)
  let trial := integral + divNearest (x * 1000) (2 ^ p.ki)
  let r := -(proportional + trial)
  if -rateLimit ≤ r ∧ r ≤ rateLimit then (r, trial)
  else (clampInt (-rateLimit) rateLimit r, integral)

/-- The servo update of a second with a sample in ACQUIRING or LOCKED (R154). -/
def State.servoUpdate (theta : Int) (s : State) : State :=
  let v := s.tsv
  if v.params.stepThreshold < theta.natAbs ∧ s.phaseAllowsSteps ∧ v.state = .acquiring then s.stepCommand (-theta)
  else
    let (r, integral) := rateUpdate v.params v.integral theta
    (s.onTsv fun v =>
      { v with
        integral := integral
        history := if v.state = .locked then historyPush v.history r else v.history }).rateCommand r

/-! ### The second's end (R143) -/

/-- The whole-second mark is taken by the servo: the first ever, or 500 ms of counter advance after the last (R143). -/
def State.markTaken (s : State) : Bool :=
  match s.tsv.lastMark with
  | none => true
  | some m => decide (m + nsUnits 500000000 ≤ s.tbs.advance)

/-- The sample of the selected source. -/
def selectedSample (gnss : Option Int) (link : PerCarrier (Option Int)) : Option Source → Option Int
  | none => none
  | some .gnss => gnss
  | some .linkA => link.a
  | some .linkB => link.b

/-- The work of a second's end, in the order of R143. The last sample kept for the report stays that of the source that last
had one while it was selected, also after the selection has moved (R160, log entry 46). -/
def State.secondEnd (s : State) : State :=
  let gnss := s.tsv.gnssSample
  let link : PerCarrier (Option Int) := { a := s.tsv.linkSample .a, b := s.tsv.linkSample .b }
  let s1 := s.onTsv fun v =>
    { v with
      lastMark := some s.tbs.advance
      gnssCandidate := none
      linkCandidates := { a := none, b := none } }
  let s2 := s1.testSeesSecond gnss link
  let s3 := s2.onTsv fun v =>
    { v with
      gnss := v.gnss.second gnss.isSome
      linkA := v.linkA.second link.a.isSome
      linkB := v.linkB.second link.b.isSome }
  let s4 := s3.selectSource
  let theta := selectedSample gnss link s4.tsv.selected
  let s5 := s4.onTsv fun v => { v with lastTheta := theta.getD v.lastTheta }
  let s6 := s5.moveState theta
  let s7 :=
    match s6.tsv.state, theta with
    | .acquiring, some x | .locked, some x => s6.servoUpdate x
    | _, _ => s6
  s7.refreshClass

/-- The whole-second mark (R143): one made sooner than 500 ms after the last is ignored. -/
def State.wholeSecond (s : State) : State := if s.markTaken then s.secondEnd else s

/-! ### Holdover (R153) -/

/-- The holdover elapsed time in units of counter advance. -/
def State.holdoverUnits (s : State) : Nat :=
  match s.tsv.holdoverSince with
  | none => 0
  | some since => s.tbs.advance - since

/-- The holdover elapsed time in whole seconds, which stops at 4,294,967,295 (R153). -/
def State.holdoverSeconds (s : State) : Nat := min (s.holdoverUnits / unitsPerSecond) 4294967295

/-- The holdover limit is reached. -/
def State.limitReached (s : State) : Bool :=
  decide (s.tsv.params.holdoverLimit * unitsPerSecond ≤ s.holdoverUnits)

/-- At the limit HOLDOVER becomes HOLDOVER_SPENT (R153, R157). -/
def State.spendHoldover (s : State) : State :=
  if s.tsv.state = .holdover ∧ s.limitReached then (s.setTimingState .holdoverSpent).refreshClass else s

/-! ### GNSS edges and labels (R134, R149, R150) -/

/-- The guard accepts a capture now (R134). -/
def State.captureAccepted (s : State) : Bool :=
  match s.tbs.lastCapture with
  | none => true
  | some (_, at_) => decide (at_ + nsUnits 900000000 ≤ s.tbs.advance)

/-- The seconds an edge marks on the counter (R150). -/
def edgeSeconds (c : Stamp) : Seconds := if c.ns < 500000000 then c.sec else c.sec + 1

/-- The seconds setting that makes an edge mark a label (R150). -/
def labelSetting (c : Stamp) (label : Seconds) : Seconds := if c.ns < 500000000 then label else label - 1

/-- An answer for the label's sheet, unless the sheet has left the held-sheets list (R15). -/
def State.answerLabel (l : PendingLabel) (code : AnswerCode) (s : State) : State :=
  match l.sheet with
  | none => s
  | some sheet => s.answer sheet code []

/-- The pending label is settled by a capture (R150). -/
def State.settleLabel (c : Stamp) (s : State) : State :=
  match s.tsv.label with
  | none => s
  | some l =>
    let s1 := s.onTsv fun v => { v with label := none }
    if s.phaseAllowsSteps ∧ s.tsv.state = .acquiring then
      (s1.secondsSetting (labelSetting c l.value)).answerLabel l .done
    else s1.answerLabel l (if edgeSeconds c = l.value then .done else .labelMismatch)

/-- A rising edge of the GNSS pulse (R134, R144, R150). -/
def State.gnssPulse (s : State) : State :=
  if s.captureAccepted then
    let c := s.now
    ((s.onTbs fun t => { t with lastCapture := some (c, t.advance) }).onTsv fun v =>
      { v with gnssCandidate := some c }).settleLabel c
  else s

/-- GNSS_LABEL (R149): the label stays pending until an edge settles it. -/
def State.gnssLabel (sheet : SheetIx) (params : List Word) (s : State) : State :=
  match params[0]?, params[1]? with
  | some _, some high =>
    if 0xFFFF < high.toNat then s.answer sheet .badParameter []
    else if s.tsv.label.isSome then s.answer sheet .busy []
    else s.onTsv fun v => { v with label := some ⟨(wideParam params 0).setWidth 48, some sheet⟩ }
  | _, _ => s.answer sheet .badParameter []

/-! ### TIMING_SET (R158, R159) -/

/-- The parameters of a TIMING_SET as given, before clamping. -/
def givenServo (params : List Word) (p : ServoParams) : ServoParams :=
  { lockWindow := (given params 3 decodeCount p.lockWindow).getD p.lockWindow
    stepThreshold := (given params 4 decodeCount p.stepThreshold).getD p.stepThreshold
    holdoverLimit := (given params 5 decodeCount p.holdoverLimit).getD p.holdoverLimit
    kp := (given params 6 decodeCount p.kp).getD p.kp
    ki := (given params 7 decodeCount p.ki).getD p.ki
    cableDelay := (given params 8 decodeCount p.cableDelay).getD p.cableDelay
    manualRate := (given params 9 decodeSigned p.manualRate).getD p.manualRate }

/-- The clamping of the servo's parameters (section 9.7, R158). -/
def clampServo (p : ServoParams) : ServoParams where
  lockWindow := clampNat 10 10000 p.lockWindow
  stepThreshold := clampNat 100 1000000 p.stepThreshold
  holdoverLimit := clampNat 60 86400 p.holdoverLimit
  kp := clampNat 0 15 p.kp
  ki := clampNat 0 20 p.ki
  cableDelay := clampNat 0 1000000 p.cableDelay
  manualRate := clampInt (-rateLimit) rateLimit p.manualRate

/-- TIMING_SET (R158, R159). -/
def State.timingSet (sheet : SheetIx) (params : List Word) (s : State) : State :=
  match given params 0 decodePriority s.tsv.gnss.priority, given params 1 decodePriority s.tsv.linkA.priority,
      given params 2 decodePriority s.tsv.linkB.priority with
  | some g, some a, some b =>
    let raw := givenServo params s.tsv.params
    let new := clampServo raw
    let s1 := s.onTsv fun v =>
      { v with
        gnss := { v.gnss with priority := g }
        linkA := { v.linkA with priority := a }
        linkB := { v.linkB with priority := b }
        params := new }
    let s2 := if s.tsv.state = .freerun ∧ 10 ≤ params.length then s1.rateCommand new.manualRate else s1
    let s3 := if 6 ≤ params.length then s2.spendHoldover else s2
    s3.answer sheet (if new = raw then .done else .adjusted) []
  | _, _, _ => s.answer sheet .badParameter []

/-! ### PPS outputs (R135 to R138) -/

/-- The nanoseconds of an output's pulse instant (R135). -/
def PpsOutput.instantNs (o : PpsOutput) : Nat :=
  if 0 ≤ o.offset then o.offset.toNat else (1000000000 + o.offset).toNat

/-- An output's guard lets it pulse (R137). -/
def PpsOutput.guardAllows (o : PpsOutput) (advance : Nat) : Bool :=
  match o.lastPulse with
  | none => true
  | some p => decide (p + nsUnits 500000000 ≤ advance)

/-- An output pulses at its instant (R137). -/
def State.ppsEmits (s : State) (i : PpsOut) : Bool :=
  s.tbs.pps[i].enable && s.tsv.timingClass.atLeast s.tbs.pps[i].squelch && s.tbs.pps[i].guardAllows s.tbs.advance

/-- An output's pulse instant (R137). -/
def State.ppsInstant (i : PpsOut) (s : State) : State :=
  if s.ppsEmits i then
    s.onTbs fun t =>
      { t with pps := tableModify t.pps i fun o => { o with high := true, lastPulse := some t.advance } }
  else s

/-- The end of an output's pulse (R135). -/
def State.ppsEnd (i : PpsOut) : State → State :=
  State.onTbs fun t => { t with pps := tableModify t.pps i fun o => { o with high := false } }

/-- The record a PPS_SET leaves, and whether the offset was clamped (R136). -/
def PpsOutput.setting (o : PpsOutput) (enable : Bool) (offset : Int) (squelch : TimingClass) : PpsOutput :=
  { o with enable := enable, offset := clampInt (-500000) 500000 offset, squelch := squelch }

/-- A pulse instant that advance has reached and that is still to be made is made now. -/
def State.makeDueInstant (i : PpsOut) (s : State) : State :=
  if .ppsPulseInstant [] i ∈ s.due then (s.settle (.ppsPulseInstant [] i)).ppsInstant i else s

/-- PPS_SET (R136). The new settings apply from the next instant that advance reaches after the order: one reached before it
and still to be made is made first, by the settings it was reached with (log entry 57). -/
def State.ppsSet (sheet : SheetIx) (params : List Word) (s : State) : State :=
  match required params 0 (decodeIndex 2) with
  | none => s.answer sheet .badParameter []
  | some i =>
    let o := s.tbs.pps[i]
    match given params 1 decodeSwitch o.enable, given params 2 decodeSigned o.offset,
        given params 3 decodeClass o.squelch with
    | some enable, some offset, some squelch =>
      ((s.makeDueInstant i).onTbs fun t =>
        { t with pps := tableModify t.pps i fun o => o.setting enable offset squelch }).answer sheet
        (if (o.setting enable offset squelch).offset = offset then .done else .adjusted) []
    | _, _, _ => s.answer sheet .badParameter []

/-! ### Timing notices (R139) -/

/-- The bytes of a timing notice ahead of its frame check (section 12.7). -/
def State.noticeFields (s : State) (t : Tenant) : List Byte :=
  0xBF :: bigEndian 6 (s.tbs.sec + 1).toNat
    ++ [BitVec.ofNat 8 s.tsv.timingClass.code, BitVec.ofNat 8 s.phc.phase.code,
        BitVec.ofNat 8 (s.contract t).state.code] ++ List.replicate 50 0

/-- A timing notice: a frame of 64 bytes, of which the sector port forms the last four, the frame check (section 12.7); the
value of the check is free (log entry 21). -/
def State.noticeBytes (s : State) (t : Tenant) : List Byte :=
  s.noticeFields t ++ bigEndian 4 (Config.frameCheck (s.noticeFields t)).toNat

/-- The notice of one port (R67, R139). -/
def State.portNotice (p : Port) (s : State) : State :=
  match (s.port p).tenant with
  | none => s
  | some t =>
    let (s1, left) := s.egress p (s.noticeBytes t)
    if left then s1.onChannel 63 fun e => { e with egress := e.egress + 1 } else s1

/-- The half-second mark (R139). -/
def State.notices (s : State) : State := allPorts.foldl (fun s p => s.portNotice p) s

end Sys2Proof.Machine
end

