-- ==== Sys2Proof/Machine/Delivery.lean ====
section
/-! DEFINITION. The delivery of an inbound superframe (R33, R41, R45, R193, section 12.6). -/

namespace Sys2Proof.Machine

/-! ### The inbound header -/

/-- The value of a header field: `count` bytes from `start`, most significant first (chapter 12). -/
def headerField (header : List Byte) (start count : Nat) : Nat := readBig ((header.drop start).take count)

/-- A header byte that is a flag is set when it is not 0 (R193). -/
def headerFlag (header : List Byte) (place : Nat) : Bool := headerField header place 1 != 0

/-- A stamp of six bytes of seconds and four of nanoseconds (section 12.6). -/
def headerStamp (header : List Byte) (start : Nat) : Stamp :=
  { sec := BitVec.ofNat 48 (headerField header start 6), ns := headerField header (start + 6) 4 }

/-- The timing answer of an inbound header (R45). -/
structure TimingAnswer where
  echoed : Word
  t2 : Stamp
  t3 : Stamp
  deriving DecidableEq, Repr

/-- The fields of an inbound header (section 12.6). -/
structure InHeader where
  far : Word
  declared : Byte
  farState : Byte
  farFec : Bool
  loopAcknowledged : Bool
  farSnr : Nat
  edition : Word
  demand : Vector (BitVec 16) 8
  answer : Option TimingAnswer
  residence : Word
  deriving DecidableEq, Repr

/-- The timing answer of a header: none while the flag is clear, and none that can match where a nanoseconds field
exceeds 999,999,999 (R193). -/
def readTimingAnswer (header : List Byte) : Option TimingAnswer :=
  let x : TimingAnswer :=
    { echoed := BitVec.ofNat 32 (headerField header 32 4)
      t2 := headerStamp header 36
      t3 := headerStamp header 46 }
  if headerFlag header 30 ∧ x.t2.ns ≤ 999999999 ∧ x.t3.ns ≤ 999999999 then some x else none

/-- A framer decodes an inbound header (R193, section 12.6). -/
def readHeader (header : List Byte) : InHeader :=
  { far := BitVec.ofNat 32 (headerField header 0 4)
    declared := BitVec.ofNat 8 (headerField header 4 1)
    farState := BitVec.ofNat 8 (headerField header 5 1)
    farFec := headerFlag header 6
    loopAcknowledged := headerFlag header 7
    farSnr := headerField header 8 2
    edition := BitVec.ofNat 32 (headerField header 10 4)
    demand := Vector.ofFn fun t => BitVec.ofNat 16 (headerField header (14 + 2 * t.val) 2)
    answer := readTimingAnswer header
    residence := BitVec.ofNat 32 (headerField header 56 4) }

/-! ### The slots -/

/-- A slot's check holds: its last two bytes are the check of those before (section 12.6, R194). -/
def slotGood (slot : List Byte) : Bool :=
  decide (5 ≤ slot.length)
    && readBig (slot.drop (slot.length - 2)) == (checkOf (slot.take (slot.length - 2))).toNat

/-- A slot as the framer hands it on (R32). -/
def readInSlot (slot : List Byte) : InSlot :=
  { good := slotGood slot
    owner := slot.head?.getD 0
    carry := readBig ((slot.drop 1).take 2)
    payload := (slot.take (slot.length - 2)).drop 3 }

/-- The slots of an accepted superframe that fail their check (R47). -/
def badSlots (slots : List InSlot) : Nat := slots.countP fun x => !x.good

/-! ### An accepted header (R41) -/

/-- The far-sync record: a far state of SYNC or FLYWHEEL is recorded, any other leaves it (R42, R193). The number is
that of the superframe in progress (log entry 68). -/
def State.recordFarSync (c : Carrier) (farState : Byte) (s : State) : State :=
  if farState = 2 ∨ farState = 3 then s.onFramer c fun f => { f with farSync := some s.tbs.superframe } else s

/-- The inbound demand of each tenant (R41). -/
def State.takeDemand (demand : Vector (BitVec 16) 8) : State → State :=
  State.onShc fun h => { h with demand := demand }

/-- A timing answer that matches a pending departure forms an exchange record and removes the entry; any other is
discarded (R45). -/
def State.takeAnswer (c : Carrier) (declared : Byte) (t4 : Stamp) (x : TimingAnswer) (s : State) : State :=
  match (s.cfr.get c).departures.find? fun d => d.superframe == x.echoed with
  | none => s
  | some d =>
    (s.onFramer c fun f =>
      { f with departures := f.departures.filter fun e => e.superframe != x.echoed }).exchange
        { carrier := c, t1 := d.t1, t2 := x.t2, t3 := x.t3, t4 := t4, outbound := d.profile, inbound := declared.toNat }

/-- The timing answer of a header, if it carries one. -/
def State.takeAnswerIfAny (c : Carrier) (h : InHeader) (t4 : Stamp) (s : State) : State :=
  match h.answer with
  | none => s
  | some x => s.takeAnswer c h.declared t4 x

/-- The fields of an accepted header are handed to their users and the slots to the Reassembler (R32, R41); the order is
this model's (log entry 18). -/
def State.acceptHeader (c : Carrier) (h : InHeader) (slots : List InSlot) (t4 : Stamp) (s : State) : State :=
  let s1 := s.recordFarSync c h.farState
  let s2 := s1.outboundReport c h.farSnr h.farFec
  let s3 := s2.takeDemand h.demand
  let s4 := if h.loopAcknowledged then s3.loopAcknowledged c else s3
  let s5 := s4.takeAnswerIfAny c h t4
  let s6 := s5.onFramer c fun f => { f with slotErrors := f.slotErrors + BitVec.ofNat 32 (badSlots slots) }
  s6.handOver c
    { far := h.far, profile := h.declared, edition := h.edition, slots := slots, t4 := t4, residence := h.residence }

/-- The miss timer restarts (R34). -/
def State.restartMissTimer (c : Carrier) (s : State) : State :=
  s.onFramer c fun f => { f with missAt := some (s.tbs.advance + nsUnits 1250000) }

/-- A delivery (R33): ignored by a framer in OFF. -/
def State.deliver (c : Carrier) (d : Delivery) (s : State) : State :=
  if (s.cfr.get c).tx = .off then s
  else
    let t4 := s.now
    let s1 := (s.restartMissTimer c).inboundReport c d.snr d.level d.fecBlocks
    if d.headerGood then
      let h := readHeader d.header.toList
      let (s2, accepted) := s1.receiveGood c h.far
      if accepted then s2.acceptHeader c h (d.slots.toList.map readInSlot) t4 else s2
    else (s1.onFramer c fun f => { f with headerErrors := f.headerErrors + 1 }).receiveBad c

end Sys2Proof.Machine
end

