-- ==== Sys2Proof/Machine/Reports.lean ====
section
/-! DEFINITION. Table entries, reports and register reads (sections 1.6, 12.2, 12.4). -/

namespace Sys2Proof.Machine

/-! ### Fields -/

/-- A byte that holds an index or the NONE code (section 12.1). -/
def indexByte {n : Nat} (i : Option (Fin n)) : Nat :=
  match i with
  | none => 0xFF
  | some i => i.val

/-- The nine counters of a channel; egress is channel 63's, 0 for others (section 12.4). -/
def channelCounters (ch : Channel) (e : ChannelEntry) : List Word :=
  [e.enqueued, e.full, e.pool, e.sent, e.stale, e.purged, e.delivered, e.dropped, if ch = 63 then e.egress else 0]

/-- Cells in the low half, frames in the high half. -/
def occupancyWord (e : ChannelEntry) : Word := packHalves e.cells e.queue.length

/-! ### READ (R19) -/

/-- An entry of the Contract Table. -/
def tenantWords (k : Contract) : List Word :=
  [packBytes k.state.code k.requirement.code (indexByte k.verdict) k.weight, BitVec.ofNat 32 k.committed,
    BitVec.ofNat 32 k.peak, packHalves k.debtOut k.debtIn]

/-- An entry of the Channel Table with its occupancy, and the number of free cells behind the words that section 12.4 lists:
R73 reports it in every READ of a channel (log entry 44). Byte 3 of the first word, which no rule names, is 0 (log entry
55). -/
def State.channelWords (s : State) (ch : Channel) : List Word :=
  let e := s.channel ch
  [packBytes (indexByte e.owner) e.priority.val (indexByte e.egressPort) 0, packHalves e.limit e.maxAge,
    occupancyWord e, BitVec.ofNat 32 (s.streamBytes ch)] ++ channelCounters ch e ++ [BitVec.ofNat 32 s.pqu.free]

/-- An entry of the Port Table. Byte 3 of the first word, which no rule names, is 0 (log entry 55). -/
def State.portWords (s : State) (p : Port) : List Word :=
  let e := s.port p
  [packBytes (indexByte e.tenant) e.defaultChannel.val (if s.world.links[p] then 1 else 0) 0, e.ingress, e.malformed,
    e.unassigned, e.egress, e.egressDiscard]

/-- An entry of a Profile Table. -/
def profileWords (e : ProfileEntry) : List Word :=
  [packHalves e.payload (indexByte e.verdict + 256 * (if e.delay.isSome then 1 else 0)), packHalves e.up e.down,
    signedWord (e.delay.getD 0)]

/-- An entry of a Pending Departures list; byte 3 of the third word is 0 (log entry 55). -/
def departureWords (d : Departure) : List Word :=
  [d.superframe, d.t1.sec.setWidth 32, packHalves (d.t1.sec >>> 32).toNat d.profile.val, BitVec.ofNat 32 d.t1.ns]

/-- A Pending Departures list, oldest first. -/
def departuresWords (list : List Departure) : List Word :=
  BitVec.ofNat 32 list.length :: list.flatMap departureWords

/-- The entry a READ names; none for an unknown table kind or an index it does not accept (R19). -/
def State.readEntry (s : State) (table index : Word) : Option (List Word) :=
  match table.toNat with
  | 1 => (decodeIndex 8 index).map fun t => tenantWords (s.contract t)
  | 2 => (decodeIndex 64 index).map s.channelWords
  | 3 => (decodeIndex 6 index).map s.portWords
  | 4 =>
    match decodeIndex 16 index with
    | none => none
    | some i =>
      (s.decodeCarrier (BitVec.ofNat 32 (i.val / 8))).map fun c =>
        profileWords (s.lau.get c).table[(Fin.ofNat 8 i.val : Profile)]
  | 5 => (s.decodeCarrier index).map fun c => departuresWords (s.cfr.get c).departures
  | _ => none

/-- READ (R19). -/
def State.readOrder (sheet : SheetIx) (params : List Word) (s : State) : State :=
  match params[0]?, params[1]? with
  | some table, some index =>
    match s.readEntry table index with
    | none => s.answer sheet .badParameter []
    | some words => s.answer sheet .done words
  | _, _ => s.answer sheet .badParameter []

/-! ### Reports (R16) -/

/-- The eight words of a carrier in the LINK report. -/
def State.linkWords (s : State) (c : Carrier) : List Word :=
  let f := s.cfr.get c
  let a := s.lau.get c
  let r := s.ras.carriers.get c
  [packBytes f.tx.code f.rx.code (indexByte a.outbound.committed) (indexByte a.inbound.committed),
    packHalves (qualityFigure a.outbound.window) (qualityFigure a.inbound.window),
    packHalves (BitVec.ofInt 16 ((a.lastLocal.map (·.level)).getD 0)).toNat
      (a.outbound.stepUp + 256 * a.inbound.stepUp),
    f.headerErrors, f.slotErrors, r.planMiss, r.profileMiss, r.late]

/-- The eight words of a tenant in the SHARES report; bytes 1 to 3 of the first are 0 (log entry 55). -/
def State.shareWords (s : State) (t : Tenant) : List Word :=
  let k := s.contract t
  let l := s.shc.last[t]
  [BitVec.ofNat 32 k.state.code, BitVec.ofNat 32 l.grantOut, BitVec.ofNat 32 l.grantIn, BitVec.ofNat 32 l.demandOut,
    BitVec.ofNat 32 l.demandIn, packHalves k.debtOut k.debtIn, s.pqu.refused[t], s.pqu.notAdmitted[t]]

/-- The qualification bits of the TIMING report; bits 3 to 7 are 0 (log entry 55). -/
def Tsv.qualificationBits (v : Tsv) : Nat :=
  (if v.gnss.qualified then 1 else 0) + (if v.linkA.qualified then 2 else 0) + (if v.linkB.qualified then 4 else 0)

/-- The code of the selected source, FFh when none (section 12.4). -/
def sourceByte : Option Source → Nat
  | none => 0xFF
  | some x => x.code

/-- The TIMING report. A last θ outside the signed 64 bits of its two words is reported modulo 2^64 (R160, log entry 67). -/
def State.timingWords (s : State) : List Word :=
  let v := s.tsv
  packBytes v.state.code (sourceByte v.selected) v.qualificationBits v.timingClass.code
    :: lowHigh (BitVec.ofInt 64 v.lastTheta)
    ++ [signedWord s.tbs.rate, signedWord v.integral, BitVec.ofNat 32 s.holdoverSeconds]

/-- The two words of a flag in the VERDICTS report; bytes 2 and 3 of the first are 0 (log entry 55). -/
def verdictWords (v : Verdict) : List Word := [packBytes v.value.code (writerCode v.writer) 0 0, v.superframe.getD 0]

/-- The ten words of a channel in the QUEUES report. -/
def queueWords (ch : Channel) (e : ChannelEntry) : List Word := occupancyWord e :: channelCounters ch e

/-- The channels of a group: 8g to 8g + 7 (R16). -/
def groupChannels (group : Nat) : List Channel := (List.finRange 8).map fun i => Fin.ofNat 64 (8 * group + i.val)

/-- The words of a report (section 12.4). -/
def State.reportWords (s : State) (kind : ReportKind) (group : Nat) : List Word :=
  match kind with
  | .link => s.linkWords .a ++ s.linkWords .b
  | .shares => allTenants.flatMap s.shareWords
  | .timing => s.timingWords
  | .verdicts => s.tru.verdicts.toList.flatMap verdictWords
  | .queues => BitVec.ofNat 32 s.pqu.free :: (groupChannels group).flatMap fun ch => queueWords ch (s.channel ch)

/-! ### STANDING (R16) -/

/-- The base a sheet was taken at: that of its held entry (R9). -/
def State.takenBase (s : State) (sheet : SheetIx) : BitVec 64 :=
  match s.shi.held.find? fun h => h.sheet == sheet with
  | none => s.shi.base
  | some h => h.base

/-- The sheet joins the standing list and its first report is handed over for writing (R14, R16). The superframe of the taking
is the one in progress (log entry 68). -/
def State.standUp (sheet : SheetIx) (kind : ReportKind) (period group : Nat) (code : AnswerCode) (s : State) : State :=
  let entry : StandingEntry :=
    { sheet := sheet
      base := s.takenBase sheet
      kind := kind
      period := period
      group := group
      taken := s.tbs.superframe
      edition := 0 }
  (s.onShi fun h =>
    { h with
      standing := (h.standing.filter fun e => e.sheet != sheet) ++ [entry]
      answers := h.answers ++ [⟨sheet, code, s.reportWords kind group, true⟩] }).fallDue (.writeAnswer [])

/-- STANDING (R16): the checks, the clamping of the period, and the list of at most 8. -/
def State.standingOrder (sheet : SheetIx) (params : List Word) (s : State) : State :=
  match required params 0 decodeReport with
  | none => s.answer sheet .badParameter []
  | some kind =>
    let period := (params[1]?.map BitVec.toNat).getD 1000
    let group := (params[2]?.map BitVec.toNat).getD 0
    if kind = .queues ∧ 7 < group then s.answer sheet .badParameter []
    else if period = 0 then s.answer sheet .badParameter []
    else if 8 ≤ s.shi.standing.length then s.answer sheet .noRoom []
    else s.standUp sheet kind (min period 65535) group (if 65535 < period then .adjusted else .done)

/-! ### Register reads (section 1.1, R3, R191) -/

/-- PART_STATE (R3). -/
def State.partState (s : State) : Word :=
  BitVec.ofNat 32 (s.phc.phase.code + (if s.shi.fault then 16 else 0) + (if s.shi.carrierBFitted then 32 else 0)
    + (if s.shi.restarting then 64 else 0))

/-- What a 32-bit read at an offset of the register window returns; every other offset returns 0 (R191). Reading EVENTS
also clears it (`State.hostRead`). -/
def State.readRegister (s : State) (offset : Nat) : Word :=
  match offset with
  | 0x00 => s.shi.base.setWidth 32
  | 0x04 => (s.shi.base >>> 32).setWidth 32
  | 0x0C => s.shi.events
  | 0x10 => s.shi.mask
  | 0x14 => s.partState
  | _ => 0

/-- A read of a register by the host: it returns the addressed bytes, and one of EVENTS clears every kind (R22, R191). -/
def State.hostRead (be : BitVec 4) (offset : Nat) (s : State) : State :=
  let s1 := s.emit (.registerRead (laneValue be (s.readRegister offset)))
  if offset = 0x0C then s1.clearEvents else s1

end Sys2Proof.Machine
end

