-- ==== Sys2Proof/Machine/Sheets.lean ====
section
/-! DEFINITION. The Sheet Interface (chapter 1): scans, answers, re-reads, rewrites, sheet faults. -/

namespace Sys2Proof.Machine

/-! ### Accesses to the Sheet Area (R20) -/

/-- Work on the Sheet Area under way: the state so far, how many more accesses succeed (none: all), and whether all made
so far have succeeded. -/
structure BusRun where
  s : State
  left : Option Nat
  ok : Bool
  deriving DecidableEq, Repr

/-- Work begins; with bus mastering disabled its first access fails (R20). -/
def BusRun.start (left : Option Nat) (s : State) : BusRun :=
  { s := s, left := if s.world.busMaster then left else some 0, ok := true }

/-- One access. After a failed one none is made. -/
def BusRun.access (r : BusRun) : BusRun :=
  if r.ok then
    match r.left with
    | none => r
    | some 0 => { r with ok := false }
    | some (n + 1) => { r with left := some n }
  else r

/-- What follows accesses that succeeded. -/
def BusRun.andThen (f : State → State) (r : BusRun) : BusRun := if r.ok then { r with s := f r.s } else r

/-- A write of bytes, one access (log entry 14). -/
def BusRun.write (address : BitVec 64) (bytes : List Byte) (r : BusRun) : BusRun :=
  r.access.andThen (State.onWorld fun w => { w with mem := writeBytes address bytes w.mem })

/-- A byte of the host's memory. -/
def State.hostByteAt (s : State) (address : BitVec 64) : Byte := readByte s.world.mem address.toNat

/-! ### The held-sheets list and withdrawal (R9, R15) -/

/-- The held entry of a sheet. -/
def State.heldEntry (s : State) (sheet : SheetIx) : Option Held := s.shi.held.find? fun h => h.sheet == sheet

/-- The standing entry of a sheet. -/
def State.standingEntry (s : State) (sheet : SheetIx) : Option StandingEntry :=
  s.shi.standing.find? fun e => e.sheet == sheet

/-- A sheet leaves the held-sheets list. -/
def State.unhold (sheet : SheetIx) : State → State :=
  State.onShi fun h => { h with held := h.held.filter fun e => e.sheet != sheet }

/-- A pending label whose sheet has left the held-sheets list is settled unanswered (R15). -/
def State.orphanLabel (sheet : SheetIx) : State → State :=
  State.onTsv fun v =>
    { v with label := v.label.map fun l => if l.sheet = some sheet then { l with sheet := none } else l }

/-- A held order is withdrawn: its test leaves the Test Runner, its label stays pending, an answer still unwritten is
dropped (log entry 15), and its entry leaves the list; what its owner has carried out stays (R9, R15). -/
def State.withdraw (sheet : SheetIx) (s : State) : State :=
  if (s.heldEntry sheet).isNone then s
  else
    (((s.dropTest sheet).orphanLabel sheet).onShi fun h =>
      { h with answers := h.answers.filter fun a => a.sheet != sheet }).unhold sheet

/-! ### Taking an order (R8, R11) -/

/-- The answer words of a refusal by the Sheet Interface: every PHASE answer carries its four words (R183, log entry 30). -/
def State.refusalWords (s : State) (o : Order) : List Word :=
  if o = .phase then s.phaseWords s.tsv.timingClass else []

/-- An order in a phase in which it is not accepted is answered WRONG_PHASE; in the others `act` goes on with it (R10,
R11). -/
def State.inItsPhases (o : Order) (sheet : SheetIx) (act : State → State) (s : State) : State :=
  if o.takenIn s.phc.phase then act s else s.answer sheet .wrongPhase (s.refusalWords o)

/-- The owner of an order carries it out (R10). -/
def State.carryOut (o : Order) (sheet : SheetIx) (params : List Word) (s : State) : State :=
  match o with
  | .phase => s.phaseOrder sheet params
  | .carrierStart => s.carrierStart sheet params
  | .carrierStop => s.carrierStop sheet params
  | .profileSet => s.profileSet sheet params
  | .portSet => s.portSet sheet params
  | .channelSet => s.channelSet sheet params
  | .tenantSet => s.tenantSet sheet params
  | .tenantRetire => s.tenantRetire sheet params
  | .timingSet => s.timingSet sheet params
  | .ppsSet => s.ppsSet sheet params
  | .gnssLabel => s.gnssLabel sheet params
  | .verdictSet => s.verdictSet sheet params
  | .test => s.testOrder sheet params
  | .testStop => s.testStop sheet params
  | .standing => s.standingOrder sheet params
  | .read => s.readOrder sheet params

/-- The checks of R11, then the owner carries the order out, at the taking (log entry 36). -/
def State.checkOrder (sheet : SheetIx) (code : Byte) (count : Nat) (params : List Word) (s : State) : State :=
  match orderOfCode code with
  | none => s.answer sheet .unknownOrder []
  | some o =>
    s.inItsPhases o sheet (fun s =>
      if 32 < count ∨ count < o.namingWords then s.answer sheet .badParameter (s.refusalWords o)
      else s.carryOut o sheet params)

/-- The sheet joins the held-sheets list and is the last taken (R8, R9). -/
def State.hold (h : Held) : State → State :=
  State.onShi fun x => { x with held := x.held ++ [h], lastTaken := h.sheet }

/-- The order of a FILLED sheet is taken (R5, R8, R192): the rest of its record is read, TAKEN is written, and the checks
follow. The state read has brought the code and the count. -/
def BusRun.takeOrder (base : BitVec 64) (sheet : SheetIx) (r : BusRun) : BusRun :=
  let code := r.s.hostByteAt (sheetAddress base sheet 1)
  let count := (r.s.hostByteAt (sheetAddress base sheet 2)).toNat
  let r1 := r.access
  let params := readWords r1.s.world.mem (sheetAddress base sheet 8) (min count 32)
  (r1.write (sheetAddress base sheet 0) [2]).andThen fun s =>
    (s.hold ⟨sheet, base, code, params⟩).checkOrder sheet code count params

/-! ### The scan (R7, R8, R18) -/

/-- A standing sheet is cancelled: it is not rewritten again (R18). -/
def State.cancelStanding (sheet : SheetIx) : State → State :=
  State.onShi fun h =>
    { h with
      standing := h.standing.filter fun e => e.sheet != sheet
      rewrites := h.rewrites.filter fun r => r.sheet != sheet }

/-- A standing sheet found in another state than STANDING is cancelled. One found TAKEN whose own order is still to be
answered is not: it cannot be STANDING yet (R18, log entry 16). -/
def State.cancelFound (sheet : SheetIx) (found : Byte) (s : State) : State :=
  if found = 4 ∨ (found = 2 ∧ (s.heldEntry sheet).isSome) then s else s.cancelStanding sheet

/-- One sheet of the walk (R8, R9, R18). -/
def BusRun.scanSheet (base : BitVec 64) (r : BusRun) (sheet : SheetIx) : BusRun :=
  let r1 := r.access
  let found := r1.s.hostByteAt (sheetAddress base sheet 0)
  let r2 := r1.andThen (State.cancelFound sheet found)
  if found = 1 then (r2.andThen (State.withdraw sheet)).takeOrder base sheet else r2

/-- The 32 sheets in the order of a walk: from the one after the last taken, wrapping from 31 to 0 (R8). -/
def walk (last : SheetIx) : List SheetIx := (List.finRange 32).map fun k => last + 1 + k

/-- A scan is requested (R2, R4): it begins, or is held as the one pending scan while one is in progress or a soft restart
is. None is made while a sheet fault is set. With the base in force zero and no scan in progress the request is let go, and
no scan is made for it when a base is written later (R1, log entry 40). The request of a superframe start is held as pending
behind the scan of an earlier start in progress too (R7, log entry 63). -/
def State.beginScan (s : State) : State :=
  if s.shi.restarting then s.onShi fun h => { h with scanPending := true }
  else if s.shi.fault then s
  else if s.shi.scan.isSome then s.onShi fun h => { h with scanPending := true }
  else if s.shi.base = 0 then s
  else (s.onShi fun h => { h with scan := some h.base }).fallDue (.scan [])

/-- A step is the rewrite of a standing report. -/
def isRewrite (c : Instr) : Bool :=
  match c with
  | .standingRewrite _ _ => true
  | _ => false

/-- The pending scan, if any, begins (R2, R4), ahead of the rewrites that wait (R7). -/
def State.beginPending (s : State) : State :=
  if s.shi.scanPending then
    let s1 := (s.onShi fun h => { h with scanPending := false }).beginScan
    { s1 with due := s1.due.filter (fun c => !isRewrite c) ++ s1.due.filter isRewrite }
  else s

/-! ### Sheet faults (R20) -/

/-- Steps on the Sheet Area that a sheet fault or a restart request breaks off. -/
def sheetStep : Instr → Bool
  | .scan _ | .writeAnswer _ | .standingRewrite _ _ => true
  | .powerOnReset _ | .sheetBaseHiWrite _ _ | .sheetBaseLoWrite _ _ | .attentionWrite _ _ | .eventsRead _
  | .eventMaskWrite _ _ | .restartWrite _ _ | .registerWriteIgnored _ _ | .softRestart _ | .busError _ _ _
  | .phase _ _ | .carrierStart _ _ | .carrierStop _ _ | .profileSet _ _ | .portSet _ _ | .channelSet _ _
  | .tenantSet _ _ | .tenantRetire _ _ | .timingSet _ _ | .ppsSet _ _ | .gnssLabel _ _ | .verdictSet _ _ | .test _ _
  | .testStop _ _ | .standing _ _ | .read _ _ | .superframeStart _ | .drainEnd _ _ | .profilePoint _ | .planPoint _
  | .delivery _ _ _ | .miss _ _ | .carrierBWaitExpiry _ | .arrival _ _ _ _ | .aging _ | .halfSecondMark _
  | .wholeSecondMark _ | .timeCheckCompletion _ | .holdoverLimitExpiry _ | .gnssEdge _ | .ppsPulseInstant _ _
  | .ppsPulseEnd _ _ | .sweepSample _ _ | .noLoop _ | .berDurationEnd _ | .delayCalTimeout _ => false

/-- No step on the Sheet Area is due any longer, no rewrite waits, and a resumption is over. -/
def State.dropSheetSteps (s : State) : State :=
  { s with shi := { s.shi with rewrites := [], resuming := false }, due := s.due.filter fun c => !sheetStep c }

/-- A bus error (R20): the flag is set, SHEET_FAULT is added and all Sheet Area access stops. -/
def State.raiseFault (s : State) : State :=
  ((s.onShi fun h => { h with fault := true, scan := none, scanPending := false }).dropSheetSteps).addEvent .sheetFault

/-- The end of work on the Sheet Area: a failed access is a bus error. -/
def BusRun.finish (r : BusRun) : State := if r.ok then r.s else r.s.raiseFault

/-! ### Answers (R14) -/

/-- The oldest waiting answer leaves. -/
def State.dropAnswer : State → State := State.onShi fun h => { h with answers := h.answers.tail }

/-- The oldest waiting answer is written (R14, R192): the answer area, word 34, for an accepted STANDING order the edition
0, then the state is read again and acted on. That the edition stands behind word 34 and ahead of the re-read, so that a
discarded answer leaves it in the sheet as well, is the model's choice (R16, log entry 53). The edition is written only while
the sheet is in the standing list, which a base write may have emptied since; the state is STANDING all the same (R5, R14,
R192, log entry 41). -/
def BusRun.writeOldest (r : BusRun) : BusRun :=
  match r.s.shi.answers with
  | [] => r
  | a :: _ =>
    match r.s.heldEntry a.sheet with
    | none => r.andThen State.dropAnswer
    | some h =>
      let place (n : Nat) := sheetAddress h.base a.sheet n
      let r1 := if a.words = [] then r else r.write (place 144) (a.words.flatMap wordBytes)
      let r2 := r1.write (place 136) [BitVec.ofNat 8 a.code.code, BitVec.ofNat 8 a.words.length, 0, 0]
      let r3 := if a.standing ∧ (r2.s.standingEntry a.sheet).isSome then r2.write (place 140) (wordBytes 0) else r2
      let r4 := r3.access
      if r4.s.hostByteAt (place 0) = 2 then
        (r4.write (place 0) [if a.standing then 4 else 3]).andThen fun s =>
          (s.dropAnswer.unhold a.sheet).addEvent .answer
      else r4.andThen fun s => s.dropAnswer.unhold a.sheet

/-- Answers are written while none of them fails. -/
def BusRun.writeAll : Nat → BusRun → BusRun
  | 0, r => r
  | n + 1, r => BusRun.writeAll n r.writeOldest

/-- WRITE_ANSWER (R14): none is written while a sheet fault is set or a soft restart is in progress (R4, R20). -/
def State.writeAnswerStep (s : State) : State :=
  if s.shi.fault ∨ s.shi.restarting then s else (BusRun.start none s).writeOldest.finish

/-! ### Held test sheets (R15) -/

/-- A held entry is a test's. -/
def Held.isTest (h : Held) : Bool := orderOfCode h.code == some .test

/-- A held test sheet is read again; one no longer TAKEN is withdrawn (R15). -/
def BusRun.rereadSheet (r : BusRun) (h : Held) : BusRun :=
  let r1 := r.access
  if r1.s.hostByteAt (sheetAddress h.base h.sheet 0) = 2 then r1 else r1.andThen (State.withdraw h.sheet)

/-- The held sheets whose test has not ended: an ended test's answer waits, and R14 finds its withdrawal (R15). -/
def State.testSheets (s : State) : List Held :=
  s.shi.held.filter fun h => h.isTest && !(s.shi.answers.any fun a => a.sheet == h.sheet)

/-- The held test sheets are read again (R7, R15). -/
def BusRun.reread (r : BusRun) : BusRun := r.s.testSheets.foldl BusRun.rereadSheet r

/-- The held test sheets can be read again: not while a sheet fault is set, a soft restart is in progress or the base is
zero (R7). -/
def State.noReread (s : State) : Bool := s.shi.fault || s.shi.restarting || s.shi.base == 0

/-- The re-read of a superframe start (R7). -/
def State.rereadTests (s : State) : State :=
  if s.noReread then s else (BusRun.start none s).reread.finish

/-! ### The scan as a step (R8, R21) -/

/-- What a resumption still has to do ahead of its scan (R21): the waiting answers are written, oldest first, and the held
test sheets are read again. -/
def BusRun.resumeRest (r : BusRun) : BusRun :=
  if r.s.shi.resuming then
    ((r.writeAll r.s.shi.answers.length).reread).andThen (State.onShi fun h => { h with resuming := false })
  else r

/-- The base of the scan now made: the one it began with, else the base in force (R1). -/
def State.scanBase (s : State) : BitVec 64 := s.shi.scan.getD s.shi.base

/-- The rest of a resumption, if one is under way, and the scan's walk; none at base zero (R1). -/
def State.scanRun (left : Option Nat) (s : State) : BusRun :=
  let r := (BusRun.start left s).resumeRest
  if s.scanBase = 0 then r else (walk s.shi.lastTaken).foldl (BusRun.scanSheet s.scanBase) r

/-- A scan is ended; a pending one begins (R2). -/
def State.scanEnded (s : State) : State := (s.onShi fun h => { h with scan := none }).beginPending

/-- No scan is made while a sheet fault is set, a soft restart is in progress, or the base is zero (R1, R7). A resumption
is led to its end even then when a base write has made the base zero meanwhile (R21). -/
def State.noScan (s : State) : Bool :=
  s.shi.fault || s.shi.restarting || (s.scanBase == 0 && !s.shi.resuming)

/-- SCAN (R8, R21). -/
def State.scanStep (s : State) : State :=
  if s.noScan then s
  else
    let r := s.scanRun none
    if r.ok then r.s.scanEnded else r.s.raiseFault

/-! ### Standing reports (R17) -/

/-- A whole number of periods has passed since the taking (R17). Superframe numbers differ modulo 2^32, so the start that lies
exactly 2^32 superframes after the taking is told from the taking itself by nothing: no rewrite is due there (log entry
62). -/
def StandingEntry.dueAt (e : StandingEntry) (n : Word) : Bool :=
  let age := (n - e.taken).toNat
  age != 0 && age % e.period == 0

/-- The kept edition count of a sheet. -/
def State.setEdition (sheet : SheetIx) (edition : Word) : State → State :=
  State.onShi fun h =>
    { h with standing := h.standing.map fun e => if e.sheet = sheet then { e with edition := edition } else e }

/-- The oldest rewrite that waits for a sheet is made and waits no longer. -/
def State.dropRewrite (sheet : SheetIx) : State → State :=
  State.onShi fun h => { h with rewrites := h.rewrites.eraseP fun r => r.sheet == sheet }

/-- A rewrite (R17): edition E + 1, the report with its count, edition E + 2, and E + 2 is kept. Of word 34 the count byte
alone is written (log entry 38). -/
def BusRun.rewrite (e : StandingEntry) (words : List Word) (r : BusRun) : BusRun :=
  let place (n : Nat) := sheetAddress e.base e.sheet n
  let r1 := r.write (place 140) (wordBytes (e.edition + 1))
  let r2 := (r1.write (place 144) (words.flatMap wordBytes)).write (place 137) [BitVec.ofNat 8 words.length]
  (r2.write (place 140) (wordBytes (e.edition + 2))).andThen fun s =>
    (s.setEdition e.sheet (e.edition + 2)).dropRewrite e.sheet

/-- No rewrite is made while the base is zero, a sheet fault is set or a soft restart is in progress (R7). -/
def State.noRewrite (s : State) : Bool := s.shi.fault || s.shi.restarting || s.shi.base == 0

/-- The words that a waiting rewrite writes: those of its superframe start (R17), but for VERDICTS. That report shows the
records as they stand at the rewrite, so also what the scan ahead of it has set (R7, R162). -/
def State.rewriteWords (s : State) (e : StandingEntry) (r : Rewrite) : List Word :=
  if e.kind = .verdicts then s.reportWords e.kind e.group else r.words

/-- The rewrite that waits for a sheet: its standing entry, and the words it writes (R17, R162). -/
def State.rewriteDue (s : State) (sheet : SheetIx) : Option (StandingEntry × List Word) :=
  if s.noRewrite then none
  else
    match s.standingEntry sheet, s.shi.rewrites.find? fun r => r.sheet == sheet with
    | some e, some r => some (e, s.rewriteWords e r)
    | _, _ => none

/-- STANDING_REWRITE (R17): made for a sheet whose rewrite waits. While a scan is in progress it waits on: the scan comes
first (R7, R18). -/
def State.rewriteStep (sheet : SheetIx) (s : State) : State :=
  match s.rewriteDue sheet with
  | none => s
  | some (e, words) =>
    if s.shi.scan.isSome then s.fallDue (.standingRewrite [] sheet)
    else ((BusRun.start none s).rewrite e words).finish

/-- The rewrite of a standing sheet falls due, with its report as the owners now stand, at the superframe start (R17, log
entry 51). -/
def State.rewriteFallsDue (e : StandingEntry) (s : State) : State :=
  (s.onShi fun h => { h with rewrites := h.rewrites ++ [⟨e.sheet, s.reportWords e.kind e.group⟩] }).fallDue
    (.standingRewrite [] e.sheet)

/-- The rewrites of a superframe start fall due (R7, R17). -/
def State.rewritesFallDue (s : State) : State :=
  if s.noRewrite then s
  else (s.shi.standing.filter fun e => e.dueAt s.tbs.superframe).foldl (fun s e => s.rewriteFallsDue e) s

/-- The scan of a superframe start (R7): none, not even a pending one, while the base is zero; under a soft restart the
start leaves a pending scan (R4). -/
def State.startScan (s : State) : State := if !s.shi.restarting && s.shi.base == 0 then s else s.beginScan

/-! ### Register writes (R1, R2, R4, R21) -/

/-- Sheet Area access resumes (R21): the flag is cleared, the writing of each waiting answer falls due, oldest first, and
behind them the scan, ahead of whose walk the held test sheets are read again. The scan counts as in progress from here on
(log entry 60). -/
def State.resume (s : State) : State :=
  let s1 := (s.onShi fun h => { h with fault := false }).dropSheetSteps
  { s1 with
    shi := { s1.shi with resuming := true, scan := if s1.shi.base = 0 then none else some s1.shi.base }
    due := s1.due ++ List.replicate s1.shi.answers.length (.writeAnswer []) ++ [.scan []] }

/-- A write to ATTENTION (R2, R4, R21). -/
def State.attention (s : State) : State :=
  if s.shi.restarting then s.beginScan else if s.shi.fault then s.resume else s.beginScan

/-- A write to SHEET_BASE_HI (R1). -/
def State.writeBaseHi (v : Word) (s : State) : State :=
  if s.phc.phase = .setup then s.onShi fun h => { h with pendingHi := some v } else s

/-- The base in force after a write to SHEET_BASE_LO (R1). -/
def Shi.newBase (h : Shi) (v : Word) : BitVec 64 :=
  (h.pendingHi.getD ((h.base >>> 32).setWidth 32)) ++ (v &&& 0xFFFFF000)

/-- A write to SHEET_BASE_LO (R1, R18). -/
def State.writeBaseLo (v : Word) (s : State) : State :=
  if s.phc.phase = .setup then
    s.onShi fun h => { h with base := h.newBase v, pendingHi := none, standing := [], rewrites := [] }
  else s

/-! ### Work broken off (R4, R20) -/

/-- The work, of whose accesses `left` succeed. -/
def State.sheetWork (work : SheetWork) (left : Nat) (s : State) : BusRun :=
  match work with
  | .scan => s.scanRun (some left)
  | .answer => (BusRun.start (some left) s).writeOldest
  | .reread => (BusRun.start (some left) s).reread
  | .rewrite sheet =>
    match s.rewriteDue sheet with
    | none => BusRun.start (some left) s
    | some (e, words) => (BusRun.start (some left) s).rewrite e words
  | .resume => (BusRun.start (some left) s).resumeRest

/-- The oldest waiting answer has a held sheet to be written into. -/
def State.answerWaits (s : State) : Bool := s.shi.answers.any fun a => (s.heldEntry a.sheet).isSome

/-- A resumption has an answer to write or a test sheet to read again (R21). -/
def State.resumeStands (s : State) : Bool := s.shi.resuming && (s.answerWaits || !s.testSheets.isEmpty)

/-- The work can be in progress: the part now makes accesses for it (R1, R4, R7, R17, R20, R21). -/
def State.workStands (s : State) (work : SheetWork) : Bool :=
  !s.shi.restarting &&
  match work with
  | .scan => !s.shi.fault && (s.scanBase != 0 || s.resumeStands)
  | .answer => !s.shi.fault && (s.shi.answers.head?.bind fun a => s.heldEntry a.sheet).isSome
  | .reread => !s.noReread && !s.testSheets.isEmpty
  | .rewrite sheet => (s.rewriteDue sheet).isSome && s.shi.scan.isNone
  | .resume => !s.shi.fault && s.resumeStands

/-- The work on the Sheet Area that a step makes. -/
def stepWork : Instr → Option SheetWork
  | .scan _ => some .scan
  | .writeAnswer _ => some .answer
  | .standingRewrite _ sheet => some (.rewrite sheet)
  | _ => none

/-- A superframe start has been reached and its other steps are made: it is the next timed step to be taken, and its re-read
of the held test sheets may be under way (R7). -/
def State.startIsNext (s : State) : Bool :=
  match s.due.find? fun c => !sheetStep c with
  | some (.superframeStart _) => true
  | _ => false

/-- The work in progress on the Sheet Area (log entry 52): the re-read of a superframe start whose turn has come, or that of
the oldest step on the Sheet Area that has come due. -/
def State.workInProgress (s : State) : Option SheetWork :=
  if s.startIsNext && s.workStands .reread then some .reread else s.due.findSome? stepWork

/-- Work broken off after `made` of its accesses: the others are left as a failed access leaves them, and no fault is set
(R4, R17). -/
def State.brokenOff (work : SheetWork) (made : Nat) (s : State) : State :=
  if s.workStands work then (s.sheetWork work made).s else s

/-- The work in progress ends at once (R4); how many of its accesses have been made by then is a free value (log entry
52). -/
def State.breakOff (s : State) : State :=
  match s.workInProgress with
  | none => s
  | some work => s.draw.brokenOff work (Config.accessesMade s.openCount)

/-- A write to RESTART (R4): the value 1 requests a soft restart unless one is in progress, and the work in progress on the
Sheet Area ends at once. A scan pending before the write is kept and is made when the restart is complete (log entry 42). -/
def State.requestRestart (v : Word) (s : State) : State :=
  if v = 1 ∧ ¬ s.shi.restarting then
    (s.breakOff.onShi fun h => { h with restarting := true, scan := none }).dropSheetSteps
  else s

/-- BUS_ERROR (R20): the work is done up to the access that fails, and the fault is raised; where no such work can be in
progress there is no access to fail (log entry 17). -/
def State.busErrorStep (work : SheetWork) (left : Nat) (s : State) : State :=
  if s.workStands work then (s.sheetWork work left).s.raiseFault else s

end Sys2Proof.Machine
end

