-- ==== Sys2Proof/Machine/Restart.lean ====
section
/-! DEFINITION. Power-on reset and soft restart (R24, R25 and the reset rule of every block). -/

namespace Sys2Proof.Machine

/-- POWER_ON_RESET (R24, R38, R48, R64, R65, R68, R80, R81, R113, R115, R121, R122, R141, R160, R162, R180, R181): every
block at its power-on values, the strap sampled. The outside, the outputs given and the commands waiting are not the
part's. -/
def State.powerOn (fitted : Bool) (s : State) : State :=
  { State.reset with
    shi := .reset fitted
    world := s.world
    outputs := s.outputs
    openCount := s.openCount
    pending := s.pending }

/-- The Sheet Interface at a soft restart (R25): the base, the strap and the pending scan stay. -/
def Shi.softRestart (h : Shi) : Shi :=
  { Shi.reset h.carrierBFitted with base := h.base, restarting := h.restarting, scanPending := h.scanPending }

/-- A source record at a soft restart (R161). -/
def SourceRecord.softRestart (r : SourceRecord) : SourceRecord := .reset r.priority

/-- The timing state after a soft restart (R161). -/
def Tsv.stateAfterRestart (v : Tsv) : TimingState :=
  match v.state with
  | .locked | .acquiring => if v.history = [] then .freerun else .holdover
  | .holdover => .holdover
  | .holdoverSpent => .holdoverSpent
  | .freerun => .freerun

/-- The rate command of a soft restart, if it gives one (R161). -/
def Tsv.rateAfterRestart (v : Tsv) : Option Int :=
  match v.state with
  | .locked | .acquiring => some (if v.history = [] then v.params.manualRate else meanRate v.history)
  | .holdover | .holdoverSpent | .freerun => none

/-- The start of the holdover elapsed time after a soft restart (R161). -/
def Tsv.holdoverAfterRestart (v : Tsv) (advance : Nat) : Option Nat :=
  match v.state with
  | .locked | .acquiring => if v.history = [] then none else some advance
  | .holdover | .holdoverSpent => v.holdoverSince
  | .freerun => none

/-- The Timing Servo at a soft restart (R161). -/
def Tsv.softRestart (v : Tsv) (advance : Nat) : Tsv :=
  { v with
    gnss := v.gnss.softRestart
    linkA := v.linkA.softRestart
    linkB := v.linkB.softRestart
    gnssCandidate := none
    linkCandidates := { a := none, b := none }
    state := v.stateAfterRestart
    timingClass := classOf v.stateAfterRestart v.history
    selected := none
    lockCount := 0
    outCount := 0
    holdoverSince := v.holdoverAfterRestart advance
    label := none }

/-- The rate at a soft restart: kept unless the new state commands one (R161). -/
def State.restartRate (s : State) : State :=
  match s.tsv.rateAfterRestart with
  | none => s
  | some r => s.rateCommand r

/-- Every block takes its soft-restart values (R25, R38, R64, R80, R95, R113, R115, R121, R122, R141, R161, R180, R189);
no kind is added. Steps on the Sheet Area go with the held-sheets list. -/
def State.restartValues (s : State) : State :=
  let s1 := s.restartRate
  let s2 : State :=
    { s1 with
      shi := s.shi.softRestart
      cfr := { a := .reset, b := .reset }
      lau := { a := s.lau.a.softRestart, b := s.lau.b.softRestart }
      pqu := .reset
      shc := .reset
      slf := Vector.replicate 8 .reset
      ras := .reset
      tsv := s.tsv.softRestart s.tbs.advance
      tru := { Tru.reset with verdicts := s.tru.verdicts }
      phc := { s.phc with phase := .setup }
      due := s.due.filter fun c => !sheetStep c }
  s2.recomputeGate

/-- The restart is complete: the flag is cleared and the pending scan is made (R4). -/
def State.restartComplete (s : State) : State := (s.onShi fun h => { h with restarting := false }).beginPending

/-- SOFT_RESTART (R4): made when one has been requested. -/
def State.softRestartStep (s : State) : State := if s.shi.restarting then s.restartValues.restartComplete else s

end Sys2Proof.Machine
end

