-- ==== Sys2Proof/Machine/Clock.lean ====
section
/-! DEFINITION. The passing of time: ticks of the local oscillator, and the steps of the part that fall due with them (R26
to R28, R34, R124, R129, R131, R135, R153). -/

namespace Sys2Proof.Machine

/-- Units in a millisecond. -/
def unitsPerMs : Nat := nsUnits 1000000

/-- Advance from `u0` units within a second, by `gained`, brings the counter to `v` units within a second or past it
(R131). Only advance does: a value that a step of the counter lands on exactly, like one it carries the counter over, makes
no mark and no pulse (log entry 45). -/
def passes (u0 gained v : Nat) : Bool :=
  (decide (u0 < v) && decide (v ≤ u0 + gained)) || decide (v + unitsPerSecond ≤ u0 + gained)

/-- The last millisecond mark that the advance has reached lies this many units back, when it reached one (R131). -/
def markBack (u0 gained : Nat) : Option Nat :=
  if u0 / unitsPerMs < (u0 + gained) / unitsPerMs then some ((u0 + gained) % unitsPerMs) else none

/-- A millisecond mark at counter advance `at_` starts a superframe: any mark, but after a step only one that lies at least
500 microseconds after the step and after the plan point of the superframe in progress (R27). -/
def Tbs.markStarts (t : Tbs) (at_ : Nat) : Bool :=
  match t.stepAt with
  | none => true
  | some p => decide (p + nsUnits 500000 ≤ at_) && decide (t.startAdvance + nsUnits 750000 < at_)

/-- The command when a condition holds. -/
def dueIf (b : Bool) (c : Instr) : List Instr := if b then [c] else []

/-! ### Steps of the superframe (R26, R28) -/

/-- The counters of the superframe now starting (R26), and its plan (R109). -/
def State.openSuperframe (s : State) : State :=
  (s.onTbs fun t =>
    { t with
      superframe := t.superframe + 1
      startAdvance := t.advance
      profileDone := false
      planDone := false
      stepAt := none
      starting := false }).onShc fun h => { h with currentPlan := h.nextPlan, nextPlan := none }

/-- SUPERFRAME_START (R7, R26, R29, R117, R165, R188): the number, the current plan, the re-read of the held tests, the
start of a test, the slots and the headers, the automatic return, the scan and the rewrites. The report of a rewrite is that
of the owners at the end of these (log entry 51), but for VERDICTS, which is that of the rewrite (R162). The automatic return that the last byte sent brings comes behind the
sending on both carriers (R188, log entry 59). A test starts ahead of the building of the headers, so that the header of its
start superframe carries its loop request (R29, R166, log entry 65). -/
def State.superframeStart (s : State) : State :=
  let s1 := s.openSuperframe.rereadTests
  let s2 := State.tryHeads (s1.tru.queue.length) s1
  s2.fillAndSend.autoReturn.startScan.rewritesFallDue

/-- The profile point (R28, R62, R176). -/
def State.profilePointStep (s : State) : State :=
  (((s.commitCarrier .a).commitCarrier .b).berInProfileChange).onTbs fun t => { t with profileDone := true }

/-- The part makes a step of its own: the step is due no longer, and its effect follows. A command that is no step of the
part's own never falls due. -/
def State.perform (c : Instr) (s : State) : State :=
  let s := s.settle c
  match c with
  | .softRestart _ => s.softRestartStep
  | .scan _ => s.scanStep
  | .writeAnswer _ => s.writeAnswerStep
  | .standingRewrite _ sheet => s.rewriteStep sheet
  | .superframeStart _ => s.superframeStart
  | .drainEnd _ carrier => s.drainEnd carrier
  | .profilePoint _ => s.profilePointStep
  | .planPoint _ => s.planPoint
  | .miss _ carrier => s.missed carrier
  | .carrierBWaitExpiry _ => s.endWait
  | .aging _ => s.age
  | .halfSecondMark _ => s.notices
  | .wholeSecondMark _ => s.wholeSecond
  | .timeCheckCompletion _ => s.checkCompletes
  | .holdoverLimitExpiry _ => s.spendHoldover
  | .ppsPulseInstant _ output => s.ppsInstant output
  | .ppsPulseEnd _ output => s.ppsEnd output
  | .sweepSample _ good => s.sweepSample good
  | .noLoop _ => s.noLoopEnd
  | .berDurationEnd _ => s.berEnd
  | .delayCalTimeout _ => s.delayTimeout
  | .powerOnReset _ | .sheetBaseHiWrite _ _ | .sheetBaseLoWrite _ _ | .attentionWrite _ _ | .eventsRead _
  | .eventMaskWrite _ _ | .restartWrite _ _ | .registerWriteIgnored _ _ | .busError _ _ _ | .phase _ _
  | .carrierStart _ _ | .carrierStop _ _ | .profileSet _ _ | .portSet _ _ | .channelSet _ _ | .tenantSet _ _
  | .tenantRetire _ _ | .timingSet _ _ | .ppsSet _ _ | .gnssLabel _ _ | .verdictSet _ _ | .test _ _ | .testStop _ _
  | .standing _ _ | .read _ _ | .delivery _ _ _ | .arrival _ _ _ _ | .gnssEdge _ => s

/-- The steps that have fallen due are taken, the oldest first, but for those on the Sheet Area, which wait for the bus (log
entry 12). `fuel` bounds their number. -/
def State.takeTimed : Nat → State → State
  | 0, s => s
  | fuel + 1, s =>
    match s.due.find? fun c => !sheetStep c with
    | none => s
    | some c => State.takeTimed fuel (s.perform c)

/-! ### What falls due -/

/-- The steps of a superframe start, in their order: a soft restart, the aging, the ends and the sample of a test, the ends
of drains, and the start itself (R4, R37, R116, R165, R173). A restart requested after the start was reached and before its
first step is made at it too: it is the next start after the write. Six places in the order are the model's: the restart is
made before the start's own scan is requested and does not answer for it, so that an ATTENTION write in the interval leads
to a scan at completion and the start to one more (R4, log entry 43); the restart comes before the end of a test, which it
discards (R180, log entry 47); a sample of a SWEEP comes before the end of a drain that puts its carrier into OFF (R173,
log entry 48); a test's own end comes before its withdrawal that the re-read of the start finds (R15, R167, log entry 58);
of two drains that end there carrier A's ends first (R37, R122, R124, log entry 64); and the aging, with the automatic return
it may bring, comes before a test's own end and a sample (R116, R165, R188, log entry 71). -/
def State.startGroup (s : State) : List Instr :=
  [.softRestart [], .aging []] ++ dueIf s.berEndDue (.berDurationEnd [])
    ++ dueIf s.noLoopDue (.noLoop []) ++ dueIf s.delayTimeoutDue (.delayCalTimeout [])
    ++ dueIf s.sampleDue (.sweepSample [] true) ++ dueIf (s.drainDue .a) (.drainEnd [] .a)
    ++ dueIf (s.drainDue .b) (.drainEnd [] .b) ++ [.superframeStart []]

/-- The points of the superframe in progress that are reached and not taken (R28). -/
def State.pointGroup (s : State) : List Instr :=
  dueIf (!s.tbs.profileDone && decide (s.tbs.startAdvance + nsUnits 500000 ≤ s.tbs.advance)) (.profilePoint [])
    ++ dueIf (!s.tbs.planDone && decide (s.tbs.startAdvance + nsUnits 750000 ≤ s.tbs.advance)) (.planPoint [])

/-- A pulse of an output has lasted 100 microseconds (R135). -/
def PpsOutput.pulseOver (o : PpsOutput) (advance : Nat) : Bool :=
  match o.lastPulse with
  | none => o.high
  | some p => o.high && decide (p + nsUnits 100000 ≤ advance)

/-- The steps that the tick just made brings due, each group in its own order: `u0` units within the second before it,
`gained` units. A point reached at the tick of a start stands before it: the start lies after it (R27). -/
def State.dueGroups (s : State) (u0 gained : Nat) (starts : Bool) : List (List Instr) :=
  [ s.pointGroup ++ if starts then s.startGroup else [],
    dueIf (passes u0 gained (nsUnits 500000000)) (.halfSecondMark []),
    dueIf (passes u0 gained 0) (.wholeSecondMark []),
    dueIf (s.missReached .a) (.miss [] .a),
    dueIf (s.missReached .b) (.miss [] .b),
    dueIf s.waitExpired (.carrierBWaitExpiry []),
    dueIf (s.tsv.state == .holdover && s.limitReached) (.holdoverLimitExpiry []),
    dueIf (passes u0 gained (nsUnits s.tbs.pps[0].instantNs)) (.ppsPulseInstant [] 0),
    dueIf (passes u0 gained (nsUnits s.tbs.pps[1].instantNs)) (.ppsPulseInstant [] 1),
    dueIf (s.tbs.pps[0].pulseOver s.tbs.advance) (.ppsPulseEnd [] 0),
    dueIf (s.tbs.pps[1].pulseOver s.tbs.advance) (.ppsPulseEnd [] 1) ].filter fun group => !group.isEmpty

/-- Puts a group where its key says, behind groups of the same key. -/
def insertByKey (key : Nat × List Instr) : List (Nat × List Instr) → List (Nat × List Instr)
  | [] => [key]
  | x :: rest => if key.1 < x.1 then key :: x :: rest else x :: insertByKey key rest

/-- The groups that fall due at one tick in the order in which they are taken: a free value (log entry 3). -/
def State.takenOrder (s : State) (groups : List (List Instr)) : List Instr :=
  ((groups.zipIdx.map fun (g, i) => (Config.takingOrder s.openCount i, g)).foldl (fun sorted k => insertByKey k sorted)
    []).flatMap (·.2)

/-- Groups fall due; where several do, the order is drawn. -/
def State.groupsFallDue (groups : List (List Instr)) (s : State) : State :=
  match groups with
  | [] => s
  | [g] => { s with due := s.due ++ g }
  | g :: more => { s with due := s.due ++ s.takenOrder (g :: more), openCount := s.openCount + 1 }

/-! ### The passing of time -/

/-- A tick that gains `gained` units starts a superframe (R27, R131). -/
def Tbs.startReached (t : Tbs) (gained : Nat) : Bool :=
  match markBack t.unitsInSecond gained with
  | none => false
  | some back => t.markStarts (t.advance + gained - back)

/-- One tick (R129), and what it brings due. -/
def State.tick (s : State) : State :=
  let gained := tickUnits s.tbs.rate
  let starts := s.tbs.startReached gained
  let s1 := s.onTbs fun t => { t.tick with starting := t.starting || starts }
  s1.groupsFallDue (s1.dueGroups s.tbs.unitsInSecond gained starts)

/-- The local oscillator makes `n` ticks. What a tick brings due is taken before the next one: the order of instants at
different ticks is that of the ticks (log entries 2 and 3). -/
def State.elapse : Nat → State → State
  | 0, s => s
  | n + 1, s => State.elapse n (s.takeTimed (2 * s.due.length)).tick

/-- What happens outside the part (log entries 1, 2 and 31). -/
def State.outside (o : Outside) (s : State) : State :=
  match o with
  | .hostByte address value => s.onWorld fun w => { w with mem := writeByte address value w.mem }
  | .portLink port up => s.onWorld fun w => { w with links := tableModify w.links port fun _ => up }
  | .busMaster on => s.onWorld fun w => { w with busMaster := on }
  | .interrupts on => s.onWorld fun w => { w with interrupts := on }
  | .registerRead be offset => s.hostRead be offset
  | .ticks n => s.elapse n

/-- A command is reached: what has happened outside before it, and it is due no longer. -/
def State.enter (env : List Outside) (c : Instr) (s : State) : State :=
  (env.foldl (fun s o => s.outside o) s).settle c

end Sys2Proof.Machine
end

