-- ==== Sys2Proof/Machine/EventSteps.lean ====
section
/-! DEFINITION. The events of the carriers, the ports, the clock and the tests. -/

namespace Sys2Proof.Machine

/-- SUPERFRAME_START (R26, R29). -/
def execSuperframeStart (env : List Outside) (s : State) : Host.Outcome State Fault Refusal :=
  .next ((s.enter env (.superframeStart env)).superframeStart)

/-- DRAIN_END (R37): the transmit state becomes OFF at the start of the superframe after the sixteenth header-only one. -/
def execDrainEnd (env : List Outside) (carrier : Carrier) (s : State) : Host.Outcome State Fault Refusal :=
  .next ((s.enter env (.drainEnd env carrier)).drainEnd carrier)

/-- PROFILE_POINT (R28, R62). -/
def execProfilePoint (env : List Outside) (s : State) : Host.Outcome State Fault Refusal :=
  .next ((s.enter env (.profilePoint env)).profilePointStep)

/-- PLAN_POINT (R28, R96 to R111). -/
def execPlanPoint (env : List Outside) (s : State) : Host.Outcome State Fault Refusal :=
  .next ((s.enter env (.planPoint env)).planPoint)

/-- DELIVERY (R33). -/
def execDelivery (env : List Outside) (carrier : Carrier) (delivered : Delivery) (s : State) : Host.Outcome State Fault Refusal :=
  .next ((s.enter env (.delivery env carrier delivered)).deliver carrier delivered)

/-- MISS (R34, R39, R40). -/
def execMiss (env : List Outside) (carrier : Carrier) (s : State) : Host.Outcome State Fault Refusal :=
  .next ((s.enter env (.miss env carrier)).missed carrier)

/-- CARRIER_B_WAIT_EXPIRY (R124, event 5). -/
def execCarrierBWaitExpiry (env : List Outside) (s : State) : Host.Outcome State Fault Refusal :=
  .next ((s.enter env (.carrierBWaitExpiry env)).endWait)

/-- ARRIVAL (R74). -/
def execArrival (env : List Outside) (port : Fin 6) (bytes : List Byte) (checkGood : Bool) (s : State) : Host.Outcome State Fault Refusal :=
  .next ((s.enter env (.arrival env port bytes checkGood)).arrive port bytes checkGood)

/-- AGING (R116). -/
def execAging (env : List Outside) (s : State) : Host.Outcome State Fault Refusal :=
  .next ((s.enter env (.aging env)).age)

/-- HALF_SECOND_MARK (R139). -/
def execHalfSecondMark (env : List Outside) (s : State) : Host.Outcome State Fault Refusal :=
  .next ((s.enter env (.halfSecondMark env)).notices)

/-- WHOLE_SECOND_MARK (R143). -/
def execWholeSecondMark (env : List Outside) (s : State) : Host.Outcome State Fault Refusal :=
  .next ((s.enter env (.wholeSecondMark env)).wholeSecond)

/-- TIME_CHECK_COMPLETION (R179). -/
def execTimeCheckCompletion (env : List Outside) (s : State) : Host.Outcome State Fault Refusal :=
  .next ((s.enter env (.timeCheckCompletion env)).checkCompletes)

/-- HOLDOVER_LIMIT_EXPIRY (R153). -/
def execHoldoverLimitExpiry (env : List Outside) (s : State) : Host.Outcome State Fault Refusal :=
  .next ((s.enter env (.holdoverLimitExpiry env)).spendHoldover)

/-- GNSS_EDGE (R134, R144, R150). -/
def execGnssEdge (env : List Outside) (s : State) : Host.Outcome State Fault Refusal :=
  .next ((s.enter env (.gnssEdge env)).gnssPulse)

/-- PPS_PULSE_INSTANT (R137). -/
def execPpsPulseInstant (env : List Outside) (output : Fin 2) (s : State) : Host.Outcome State Fault Refusal :=
  .next ((s.enter env (.ppsPulseInstant env output)).ppsInstant output)

/-- PPS_PULSE_END (R135). -/
def execPpsPulseEnd (env : List Outside) (output : Fin 2) (s : State) : Host.Outcome State Fault Refusal :=
  .next ((s.enter env (.ppsPulseEnd env output)).ppsEnd output)

/-- SWEEP_SAMPLE (R173, R174). -/
def execSweepSample (env : List Outside) (writeGood : Bool) (s : State) : Host.Outcome State Fault Refusal :=
  .next ((s.enter env (.sweepSample env writeGood)).sweepSample writeGood)

/-- NO_LOOP (R170). -/
def execNoLoop (env : List Outside) (s : State) : Host.Outcome State Fault Refusal :=
  .next ((s.enter env (.noLoop env)).noLoopEnd)

/-- BER_DURATION_END (R172, R175, R176). -/
def execBerDurationEnd (env : List Outside) (s : State) : Host.Outcome State Fault Refusal :=
  .next ((s.enter env (.berDurationEnd env)).berEnd)

/-- DELAY_CAL_TIMEOUT (R178). -/
def execDelayCalTimeout (env : List Outside) (s : State) : Host.Outcome State Fault Refusal :=
  .next ((s.enter env (.delayCalTimeout env)).delayTimeout)

end Sys2Proof.Machine
end

