-- ==== Sys2Proof/Machine/HostSteps.lean ====
section
/-! DEFINITION. The commands of the register window and of the resets (chapter 1, section 12.2). -/

namespace Sys2Proof.Machine

/-- POWER_ON_RESET: every block takes its power-on values and the strap is sampled (R3, R24). -/
def execPowerOnReset (carrierBFitted : Bool) (s : State) : Host.Outcome State Fault Refusal :=
  .next (s.powerOn carrierBFitted)

/-- SHEET_BASE_HI_WRITE (R1): held as the pending upper half in SETUP, ignored in other phases. -/
def execSheetBaseHiWrite (be : BitVec 4) (value : Word) (s : State) : Host.Outcome State Fault Refusal :=
  .next (s.writeBaseHi (laneValue be value))

/-- SHEET_BASE_LO_WRITE (R1, R18): changes the base in force in SETUP, ignored in other phases. -/
def execSheetBaseLoWrite (be : BitVec 4) (value : Word) (s : State) : Host.Outcome State Fault Refusal :=
  .next (s.writeBaseLo (laneValue be value))

/-- ATTENTION_WRITE (R2, R4, R21): any value requests a scan. -/
def execAttentionWrite (env : List Outside) (value : Word) (s : State) : Host.Outcome State Fault Refusal :=
  .next (s.enter env (.attentionWrite env value)).attention

/-- EVENTS_READ (R22, R191): returns the addressed bytes of the summary and clears every kind it holds. -/
def execEventsRead (be : BitVec 4) (s : State) : Host.Outcome State Fault Refusal :=
  .next (s.hostRead be 0x0C)

/-- EVENT_MASK_WRITE (R23, R191). -/
def execEventMaskWrite (be : BitVec 4) (value : Word) (s : State) : Host.Outcome State Fault Refusal :=
  .next (s.setMask (laneValue be value))

/-- RESTART_WRITE (R4): the value 1 requests a soft restart and breaks off the work on the Sheet Area in progress. -/
def execRestartWrite (be : BitVec 4) (value : Word) (s : State) : Host.Outcome State Fault Refusal :=
  .next (s.requestRestart (laneValue be value))

/-- REGISTER_WRITE_IGNORED (R3, R22, R191): a write to EVENTS, to PART_STATE or to an offset of no register. -/
def execRegisterWriteIgnored (_offset : Nat) (_value : Word) (s : State) : Host.Outcome State Fault Refusal :=
  .next s

/-- SOFT_RESTART (R4): every block takes its soft-restart values when a restart has been requested. -/
def execSoftRestart (env : List Outside) (s : State) : Host.Outcome State Fault Refusal :=
  .next (s.enter env (.softRestart env)).softRestartStep

/-- SCAN (R8). -/
def execScan (env : List Outside) (s : State) : Host.Outcome State Fault Refusal :=
  .next (s.enter env (.scan env)).scanStep

/-- WRITE_ANSWER (R14). -/
def execWriteAnswer (env : List Outside) (s : State) : Host.Outcome State Fault Refusal :=
  .next (s.enter env (.writeAnswer env)).writeAnswerStep

/-- BUS_ERROR (R20): `access` accesses of the work succeed and the next fails. -/
def execBusError (env : List Outside) (work : SheetWork) (access : Nat) (s : State) : Host.Outcome State Fault Refusal :=
  .next ((s.enter env (.busError env work access)).busErrorStep work access)

/-- STANDING_REWRITE (R17). -/
def execStandingRewrite (env : List Outside) (sheet : Fin 32) (s : State) : Host.Outcome State Fault Refusal :=
  .next ((s.enter env (.standingRewrite env sheet)).rewriteStep sheet)

end Sys2Proof.Machine
end

