-- ==== Sys2Proof/Machine/OrderSteps.lean ====
section
/-! DEFINITION. The orders of the catalogue, as their owners carry them out (R10). -/

namespace Sys2Proof.Machine

/-- PHASE (R183). -/
def execPhase (sheet : Fin 32) (params : List Word) (s : State) : Host.Outcome State Fault Refusal :=
  .next ((s.settle (.phase sheet params)).inItsPhases .phase sheet (State.carryOut .phase sheet params))

/-- CARRIER_START (R35). -/
def execCarrierStart (sheet : Fin 32) (params : List Word) (s : State) : Host.Outcome State Fault Refusal :=
  .next ((s.settle (.carrierStart sheet params)).inItsPhases .carrierStart sheet (State.carryOut .carrierStart sheet params))

/-- CARRIER_STOP (R37). -/
def execCarrierStop (sheet : Fin 32) (params : List Word) (s : State) : Host.Outcome State Fault Refusal :=
  .next ((s.settle (.carrierStop sheet params)).inItsPhases .carrierStop sheet (State.carryOut .carrierStop sheet params))

/-- PROFILE_SET (R50, R51, R63). -/
def execProfileSet (sheet : Fin 32) (params : List Word) (s : State) : Host.Outcome State Fault Refusal :=
  .next ((s.settle (.profileSet sheet params)).inItsPhases .profileSet sheet (State.carryOut .profileSet sheet params))

/-- PORT_SET (R66). -/
def execPortSet (sheet : Fin 32) (params : List Word) (s : State) : Host.Outcome State Fault Refusal :=
  .next ((s.settle (.portSet sheet params)).inItsPhases .portSet sheet (State.carryOut .portSet sheet params))

/-- CHANNEL_SET (R69). -/
def execChannelSet (sheet : Fin 32) (params : List Word) (s : State) : Host.Outcome State Fault Refusal :=
  .next ((s.settle (.channelSet sheet params)).inItsPhases .channelSet sheet (State.carryOut .channelSet sheet params))

/-- TENANT_SET (R82, R83). -/
def execTenantSet (sheet : Fin 32) (params : List Word) (s : State) : Host.Outcome State Fault Refusal :=
  .next ((s.settle (.tenantSet sheet params)).inItsPhases .tenantSet sheet (State.carryOut .tenantSet sheet params))

/-- TENANT_RETIRE (R87, R88). -/
def execTenantRetire (sheet : Fin 32) (params : List Word) (s : State) : Host.Outcome State Fault Refusal :=
  .next ((s.settle (.tenantRetire sheet params)).inItsPhases .tenantRetire sheet (State.carryOut .tenantRetire sheet params))

/-- TIMING_SET (R158, R159). -/
def execTimingSet (sheet : Fin 32) (params : List Word) (s : State) : Host.Outcome State Fault Refusal :=
  .next ((s.settle (.timingSet sheet params)).inItsPhases .timingSet sheet (State.carryOut .timingSet sheet params))

/-- PPS_SET (R136). -/
def execPpsSet (sheet : Fin 32) (params : List Word) (s : State) : Host.Outcome State Fault Refusal :=
  .next ((s.settle (.ppsSet sheet params)).inItsPhases .ppsSet sheet (State.carryOut .ppsSet sheet params))

/-- GNSS_LABEL (R149, R190). -/
def execGnssLabel (sheet : Fin 32) (params : List Word) (s : State) : Host.Outcome State Fault Refusal :=
  .next ((s.settle (.gnssLabel sheet params)).inItsPhases .gnssLabel sheet (State.carryOut .gnssLabel sheet params))

/-- VERDICT_SET (R162, R163). -/
def execVerdictSet (sheet : Fin 32) (params : List Word) (s : State) : Host.Outcome State Fault Refusal :=
  .next ((s.settle (.verdictSet sheet params)).inItsPhases .verdictSet sheet (State.carryOut .verdictSet sheet params))

/-- TEST (R164). -/
def execTest (sheet : Fin 32) (params : List Word) (s : State) : Host.Outcome State Fault Refusal :=
  .next ((s.settle (.test sheet params)).inItsPhases .test sheet (State.carryOut .test sheet params))

/-- TEST_STOP (R168). -/
def execTestStop (sheet : Fin 32) (params : List Word) (s : State) : Host.Outcome State Fault Refusal :=
  .next ((s.settle (.testStop sheet params)).inItsPhases .testStop sheet (State.carryOut .testStop sheet params))

/-- STANDING (R16). -/
def execStanding (sheet : Fin 32) (params : List Word) (s : State) : Host.Outcome State Fault Refusal :=
  .next ((s.settle (.standing sheet params)).inItsPhases .standing sheet (State.carryOut .standing sheet params))

/-- READ (R19). -/
def execRead (sheet : Fin 32) (params : List Word) (s : State) : Host.Outcome State Fault Refusal :=
  .next ((s.settle (.read sheet params)).inItsPhases .read sheet (State.carryOut .read sheet params))

end Sys2Proof.Machine
end

