-- ==== Sys2Proof/Machine/Dispatch.lean ====
section
/-! DEFINITION. One arm for each command, each one call of its meaning. -/

namespace Sys2Proof.Machine

def exec (i : Instr) (s : State) : Host.Outcome State Fault Refusal :=
  match i with
  | .powerOnReset carrierBFitted => Sys2Proof.Machine.execPowerOnReset carrierBFitted s
  | .sheetBaseHiWrite be value => Sys2Proof.Machine.execSheetBaseHiWrite be value s
  | .sheetBaseLoWrite be value => Sys2Proof.Machine.execSheetBaseLoWrite be value s
  | .attentionWrite env value => Sys2Proof.Machine.execAttentionWrite env value s
  | .eventsRead be => Sys2Proof.Machine.execEventsRead be s
  | .eventMaskWrite be value => Sys2Proof.Machine.execEventMaskWrite be value s
  | .restartWrite be value => Sys2Proof.Machine.execRestartWrite be value s
  | .registerWriteIgnored offset value => Sys2Proof.Machine.execRegisterWriteIgnored offset value s
  | .softRestart env => Sys2Proof.Machine.execSoftRestart env s
  | .scan env => Sys2Proof.Machine.execScan env s
  | .writeAnswer env => Sys2Proof.Machine.execWriteAnswer env s
  | .busError env work access => Sys2Proof.Machine.execBusError env work access s
  | .standingRewrite env sheet => Sys2Proof.Machine.execStandingRewrite env sheet s
  | .phase sheet params => Sys2Proof.Machine.execPhase sheet params s
  | .carrierStart sheet params => Sys2Proof.Machine.execCarrierStart sheet params s
  | .carrierStop sheet params => Sys2Proof.Machine.execCarrierStop sheet params s
  | .profileSet sheet params => Sys2Proof.Machine.execProfileSet sheet params s
  | .portSet sheet params => Sys2Proof.Machine.execPortSet sheet params s
  | .channelSet sheet params => Sys2Proof.Machine.execChannelSet sheet params s
  | .tenantSet sheet params => Sys2Proof.Machine.execTenantSet sheet params s
  | .tenantRetire sheet params => Sys2Proof.Machine.execTenantRetire sheet params s
  | .timingSet sheet params => Sys2Proof.Machine.execTimingSet sheet params s
  | .ppsSet sheet params => Sys2Proof.Machine.execPpsSet sheet params s
  | .gnssLabel sheet params => Sys2Proof.Machine.execGnssLabel sheet params s
  | .verdictSet sheet params => Sys2Proof.Machine.execVerdictSet sheet params s
  | .test sheet params => Sys2Proof.Machine.execTest sheet params s
  | .testStop sheet params => Sys2Proof.Machine.execTestStop sheet params s
  | .standing sheet params => Sys2Proof.Machine.execStanding sheet params s
  | .read sheet params => Sys2Proof.Machine.execRead sheet params s
  | .superframeStart env => Sys2Proof.Machine.execSuperframeStart env s
  | .drainEnd env carrier => Sys2Proof.Machine.execDrainEnd env carrier s
  | .profilePoint env => Sys2Proof.Machine.execProfilePoint env s
  | .planPoint env => Sys2Proof.Machine.execPlanPoint env s
  | .delivery env carrier delivered => Sys2Proof.Machine.execDelivery env carrier delivered s
  | .miss env carrier => Sys2Proof.Machine.execMiss env carrier s
  | .carrierBWaitExpiry env => Sys2Proof.Machine.execCarrierBWaitExpiry env s
  | .arrival env port bytes checkGood => Sys2Proof.Machine.execArrival env port bytes checkGood s
  | .aging env => Sys2Proof.Machine.execAging env s
  | .halfSecondMark env => Sys2Proof.Machine.execHalfSecondMark env s
  | .wholeSecondMark env => Sys2Proof.Machine.execWholeSecondMark env s
  | .timeCheckCompletion env => Sys2Proof.Machine.execTimeCheckCompletion env s
  | .holdoverLimitExpiry env => Sys2Proof.Machine.execHoldoverLimitExpiry env s
  | .gnssEdge env => Sys2Proof.Machine.execGnssEdge env s
  | .ppsPulseInstant env output => Sys2Proof.Machine.execPpsPulseInstant env output s
  | .ppsPulseEnd env output => Sys2Proof.Machine.execPpsPulseEnd env output s
  | .sweepSample env writeGood => Sys2Proof.Machine.execSweepSample env writeGood s
  | .noLoop env => Sys2Proof.Machine.execNoLoop env s
  | .berDurationEnd env => Sys2Proof.Machine.execBerDurationEnd env s
  | .delayCalTimeout env => Sys2Proof.Machine.execDelayCalTimeout env s

end Sys2Proof.Machine
end

