-- ==== Sys2Proof/Machine/Step.lean ====
section
/-! DEFINITION. One step of the part. -/

namespace Sys2Proof.Machine

/-- The command at the front of the queue is taken. On an empty queue the part takes the oldest of its own steps that have
fallen due, and with none due its local oscillator makes one tick (log entry 11). -/
def step (s : State) : Host.Outcome State Fault Refusal :=
  match s.pending with
  | c :: rest => exec c { s with pending := rest }
  | [] =>
    match s.due with
    | c :: _ => exec c s
    | [] => .next (s.elapse 1)

/-- The state with the command that a word spells at the front of the queue; unchanged where the word spells none, which is
always (log entry 5). -/
def State.withFetchWord (s : State) (nbits w : Nat) : State :=
  match Sys2Proof.decodeTableWord nbits w with
  | none => s
  | some c => { s with pending := c :: s.pending }

end Sys2Proof.Machine
end

