-- ==== Sys2Proof/Safety.lean ====
section
/-! DEFINITION. What a run keeps: the command completes, and the state stays within what the manual allows. -/

namespace Sys2Proof.Machine

/-- The host's memory has its canonical form. -/
def State.memoryOk (s : State) : Prop := memoryWf s.world.mem = true

/-- The Time Counter's fields and the rate lie in their ranges (section 8.1, R130). -/
def State.counterOk (s : State) : Prop :=
  s.tbs.ns < 1000000000 ∧ s.tbs.fraction < 65536 ∧ s.tbs.residue < 1000000000000
    ∧ -25000000 ≤ s.tbs.rate ∧ s.tbs.rate ≤ 25000000

/-- The cells of an inbound stream's partial frame (R121). -/
def InStream.cells : InStream → Nat
  | .collecting (some f) => cellsOf f.bytes.length
  | .collecting none => 0
  | .hunting => 0

/-- A partial frame still has bytes to come (R121). -/
def InStream.incomplete : InStream → Prop
  | .collecting (some f) => f.bytes.length < f.length
  | .collecting none => True
  | .hunting => True

/-- The cells in channel queues. -/
def State.cellsQueued (s : State) : Nat := (s.pqu.channels.toList.map ChannelEntry.cells).sum

/-- The cells held by the Reassembler. -/
def State.cellsCollected (s : State) : Nat := (s.ras.streams.toList.map InStream.cells).sum

/-- The laws of the pool (R72): free cells, cells in channel queues and cells held by the Reassembler number 8,192, and the
channel queues hold at most 7,936. -/
def State.cellsOk (s : State) : Prop :=
  s.pqu.free + s.cellsQueued + s.cellsCollected = 8192 ∧ s.cellsQueued ≤ 7936 ∧ ∀ t : Tenant, (s.inStream t).incomplete

/-- A flag holds writer and superframe just while its value is not UNSET (R162). -/
def Verdict.complete (v : Verdict) : Prop :=
  (v.value = .unset ↔ v.writer = none) ∧ (v.value = .unset ↔ v.superframe = none)

/-- Gate open is what its flag gives (R181), the class what the timing state and the history give (R157), and every flag is
complete (R162). -/
def State.gatesOk (s : State) : Prop :=
  s.phc.gateOpen = s.gateFor s.phc.gateFlag ∧ s.tsv.timingClass = classOf s.tsv.state s.tsv.history
    ∧ ∀ f : FlagIx, (s.tru.verdicts[f]).complete

/-- One direction's window holds at most 8 values, and its step-up count lies in 0 to 63 (section 3.2, R59). -/
def Direction.bounded (d : Direction) : Prop := d.window.length ≤ 8 ∧ d.stepUp ≤ 63

/-- The lists of the part keep their greatest lengths (R16, R44, R53, R111, R156, R164), and a sheet is held at most once
(R9). -/
def State.listsOk (s : State) : Prop :=
  (∀ c : Carrier, (s.cfr.get c).departures.length ≤ 4 ∧ (s.lau.get c).outbound.bounded ∧ (s.lau.get c).inbound.bounded)
    ∧ s.tsv.history.length ≤ 64 ∧ s.shc.history.length ≤ 4 ∧ s.tru.queue.length ≤ 4 ∧ s.shi.standing.length ≤ 8
    ∧ (s.shi.held.map (·.sheet)).Nodup

/-- Every slot payload is that of R48. -/
def State.payloadsOk (s : State) : Prop :=
  ∀ (c : Carrier) (p : Profile), (s.lau.get c).table[p].payload = profileTableReset[p].payload

/-- Every contract is clamped (R82) and no debt exceeds 447 (R105). -/
def State.contractsOk (s : State) : Prop :=
  s.payloadsOk ∧ ∀ t : Tenant,
    (s.contract t).committed ≤ (s.contract t).peak ∧ (s.contract t).peak ≤ 114688 ∧ (s.contract t).weight ≤ 255
      ∧ (s.contract t).debtOut ≤ 447 ∧ (s.contract t).debtIn ≤ 447

/-- A property is kept by every step of the part. -/
def KeptByStep (inv : State → Prop) : Prop := ∀ s t : State, inv s → step s = .next t → inv t

/-- Every command completes: no step stops. -/
def AlwaysCompletes : Prop := ∀ s : State, ∃ t, step s = .next t

end Sys2Proof.Machine
end

