-- ==== Sys2Proof/Certificates/Slice0/Obligations.lean ====
section
/-! DEFINITION. The statements about the model. In all of them `e` is the state at the command: what the outside has done
before it, the command no longer due (`State.enter`, `State.settle`). -/

open Sys2Proof Sys2Proof.Machine

/-! ### The queue -/

/-- The model's own queue (log entries 11 and 12): a step takes the command at the front of the queue and runs it with the
queue's rest. -/
def Obligations.StepTakesTheFrontCommand : Prop :=
  ∀ (c : Instr) (rest : List Instr) (s : State), s.pending = c :: rest → step s = exec c { s with pending := rest }

/-- The model's own choice (log entries 11 and 12): on an empty queue the oldest due step of the part is taken, and with
none due the local oscillator makes one tick. No step stops, whatever the queue holds. -/
def Obligations.StepOnAnEmptyQueue : Prop :=
  (∀ s : State, s.pending = [] →
    (∀ (c : Instr) (rest : List Instr), s.due = c :: rest → step s = exec c s)
      ∧ (s.due = [] → step s = .next (s.elapse 1)))
    ∧ AlwaysCompletes

/-! ### Registers and resets -/

/-- R24: what power-on reset leaves in the Sheet Interface. That a request for a scan at base zero is let go, and leaves
not even a pending scan, is the model's choice (log entry 40). -/
def Obligations.PowerOnResetOfTheSheetInterface : Prop :=
  ∀ (fitted : Bool) (s : State), ∃ t, exec (.powerOnReset fitted) s = .next t
    ∧ t.shi.base = 0 ∧ t.shi.pendingHi = none ∧ t.shi.events = 0 ∧ t.shi.mask = 0 ∧ t.shi.fault = false
    ∧ t.shi.restarting = false ∧ t.shi.scan = none ∧ t.shi.scanPending = false ∧ t.shi.resuming = false
    ∧ t.shi.lastTaken = 31 ∧ t.shi.held = [] ∧ t.shi.standing = [] ∧ t.shi.answers = []
    ∧ t.shi.carrierBFitted = fitted ∧ t.phc.phase = .setup
    ∧ t.readRegister 0x14 = (if fitted then 0x20 else 0)
    ∧ t.beginScan = t

/-- R38, R64, R80, R113, R122, R141, R160, R180, R181: the other blocks after power-on reset. That the outside, the
outputs given and the queue of waiting commands stay as they are is the model's choice (log entry 39). -/
def Obligations.PowerOnResetOfTheOtherBlocks : Prop :=
  ∀ (fitted : Bool) (s : State), ∃ t, exec (.powerOnReset fitted) s = .next t
    ∧ (∀ c : Carrier, (t.cfr.get c).tx = .off ∧ (t.cfr.get c).rx = .hunt ∧ (t.cfr.get c).missAt = none
        ∧ (t.cfr.get c).farSync = none ∧ (t.cfr.get c).departures = [] ∧ (t.cfr.get c).headerErrors = 0
        ∧ (t.cfr.get c).slotErrors = 0 ∧ (t.cfr.get c).heldOut = none ∧ (t.cfr.get c).heldIn = none
        ∧ (t.lau.get c).outbound = { window := [], committed := none, next := 0, stepUp := 0 }
        ∧ (t.lau.get c).inbound = { window := [], committed := none, next := 0, stepUp := 0 }
        ∧ (t.lau.get c).pin = none ∧ (t.lau.get c).lastLocal = none
        ∧ (t.ras.carriers.get c).last = none)
    ∧ t.pqu.free = 8192 ∧ (∀ ch : Channel, (t.channel ch).queue = [] ∧ (t.channel ch).owner = none)
    ∧ (∀ p : Port, (t.port p).tenant = none ∧ (t.port p).defaultChannel = 0)
    ∧ (∀ k : Tenant, (t.contract k).state = .vacant ∧ (t.contract k).debtOut = 0 ∧ (t.contract k).debtIn = 0
        ∧ t.inStream k = .hunting ∧ (t.outStream k).inProgress = none)
    ∧ t.shc.nextPlan = none ∧ t.shc.currentPlan = none ∧ t.shc.history = []
    ∧ t.tbs.sec = 0 ∧ t.tbs.ns = 0 ∧ t.tbs.fraction = 0 ∧ t.tbs.residue = 0 ∧ t.tbs.rate = 0 ∧ t.tbs.superframe = 0
    ∧ t.tsv.state = .freerun ∧ t.tsv.timingClass = .none ∧ t.tsv.selected = none
    ∧ t.tru.queue = [] ∧ t.tru.running = none
    ∧ (∀ f : FlagIx, t.tru.verdicts[f] = { value := .unset, writer := none, superframe := none })
    ∧ t.phc = { phase := .setup, gateFlag := none, gateOpen := true }
    ∧ t.world = s.world ∧ t.outputs = s.outputs ∧ t.pending = s.pending

/-- R1, R3, R22, R191: writes of the base and of offsets that take no write. In SETUP a write to SHEET_BASE_HI is held,
and a write to SHEET_BASE_LO forms the base of the held upper half, or of the one in force, and of the written value
rounded down to a multiple of 4,096; that it empties the standing list even when the base does not change is log entry 29.
In any other phase neither write has effect, and a write to EVENTS, to PART_STATE or to no register has none in any. -/
def Obligations.BaseAndIgnoredWrites : Prop :=
  ∀ (be : BitVec 4) (v : Word) (s : State),
    (s.phc.phase = .setup →
      exec (.sheetBaseHiWrite be v) s = .next { s with shi := { s.shi with pendingHi := some (laneValue be v) } }
      ∧ ∃ base : BitVec 64,
        base.toNat = (match s.shi.pendingHi with
            | some upper => upper.toNat
            | none => s.shi.base.toNat / 2 ^ 32) * 2 ^ 32 + (laneValue be v).toNat / 4096 * 4096
        ∧ exec (.sheetBaseLoWrite be v) s
            = .next { s with shi := { s.shi with base := base, pendingHi := none, standing := [], rewrites := [] } })
      ∧ (s.phc.phase ≠ .setup →
        exec (.sheetBaseHiWrite be v) s = .next s ∧ exec (.sheetBaseLoWrite be v) s = .next s)
      ∧ ∀ offset : Nat, exec (.registerWriteIgnored offset v) s = .next s

/-- R2, R4, R7, R21: a write to ATTENTION. Under a restart it leaves a scan pending; that it does so with the sheet fault
flag set too, and leaves the flag, is log entry 24. With no sheet fault set it begins a scan, or leaves one pending behind
the scan in progress, whatever base is then in force; that with a base of zero and no scan in progress the request is let
go is log entry 40. Under a sheet fault it clears the flag, and access resumes: each waiting answer falls due to be
written, and behind them the scan, ahead of whose walk the held test sheets are read again. That the answers and the scan
are steps of the part falling due is the model's choice (log entries 12 and 60). -/
def Obligations.AttentionRequestsAScan : Prop :=
  ∀ (env : List Outside) (v : Word) (s : State),
    let e := s.enter env (.attentionWrite env v)
    (e.shi.restarting = true →
        exec (.attentionWrite env v) s = .next { e with shi := { e.shi with scanPending := true } })
      ∧ (e.shi.restarting = false → e.shi.fault = false →
        (e.shi.scan ≠ none →
          exec (.attentionWrite env v) s = .next { e with shi := { e.shi with scanPending := true } })
        ∧ (e.shi.scan = none → e.shi.base = 0 → exec (.attentionWrite env v) s = .next e)
        ∧ (e.shi.scan = none → e.shi.base ≠ 0 →
          exec (.attentionWrite env v) s
            = .next { e with shi := { e.shi with scan := some e.shi.base }, due := e.due ++ [.scan []] }))
      ∧ (e.shi.restarting = false → e.shi.fault = true →
        exec (.attentionWrite env v) s = .next { e with
          shi := { e.shi with
            fault := false
            resuming := true
            rewrites := []
            scan := if e.shi.base = 0 then none else some e.shi.base }
          due := e.due.filter (fun c => !sheetStep c) ++ List.replicate e.shi.answers.length (.writeAnswer [])
            ++ [.scan []] })

/-- R22, R23, R191: a read of EVENTS returns the addressed bytes of the summary and clears every kind in it; a read of any
other register returns the addressed bytes of its value and changes nothing else. A write of EVENT_MASK keeps every bit
written, and gives one interrupt just when the masked summary goes from empty to non-empty and the host allows it. -/
def Obligations.EventRegisters : Prop :=
  ∀ (be : BitVec 4) (v : Word) (s : State),
    exec (.eventsRead be) s
        = .next { s with
            shi := { s.shi with events := 0 }
            outputs := s.outputs ++ [.registerRead (laneValue be s.shi.events)] }
      ∧ (∀ offset : Nat, offset ≠ 0x0C →
        s.outside (.registerRead be offset)
          = { s with outputs := s.outputs ++ [.registerRead (laneValue be (s.readRegister offset))] })
      ∧ s.readRegister 0x00 = s.shi.base.extractLsb' 0 32 ∧ s.readRegister 0x04 = s.shi.base.extractLsb' 32 32
      ∧ s.readRegister 0x10 = s.shi.mask
      ∧ (let opens := s.shi.events &&& s.shi.mask &&& 0xFF = 0 ∧ s.shi.events &&& laneValue be v &&& 0xFF ≠ 0
          ∧ s.world.interrupts = true ∧ s.world.busMaster = true
        (opens → exec (.eventMaskWrite be v) s
          = .next { s with shi := { s.shi with mask := laneValue be v }, outputs := s.outputs ++ [.interrupt] })
        ∧ (¬ opens → exec (.eventMaskWrite be v) s = .next { s with shi := { s.shi with mask := laneValue be v } }))
      ∧ ∀ k : Fin 4, (laneValue be v).extractLsb' (8 * k.val) 8
          = if be.getLsbD k.val then v.extractLsb' (8 * k.val) 8 else 0

/-- R4, R8, R14, R15, R17: a write to RESTART requests a soft restart just when its value is 1 and none is in progress.
With no work on the Sheet Area in progress, answers, the held-sheets list and host memory stay. Work in progress ends at
once, without a sheet fault, after some number of its accesses, which R4 does not fix (log entry 52): a scan that has made
at most two has written nothing, a re-read writes nothing and leaves the sheets it has not come to on the list, an answer
that has made at most one still waits for its sheet, and a rewrite that has made one, two or three leaves the edition odd
and the kept count as it was. A scan pending before the write stays pending (log entry 42); that the steps on the Sheet
Area still due are dropped is how the model ends them (log entry 12). -/
def Obligations.RestartWriteRequests : Prop :=
  ∀ (be : BitVec 4) (v : Word) (s : State),
    let request := fun (x : State) =>
      ({ x with
        shi := { x.shi with restarting := true, scan := none, rewrites := [], resuming := false }
        due := x.due.filter fun c => !sheetStep c } : State)
    (laneValue be v = 1 → s.shi.restarting = false →
        (s.workInProgress = none → exec (.restartWrite be v) s = .next (request s))
        ∧ ∀ work, s.workInProgress = some work → ∃ made : Nat,
          exec (.restartWrite be v) s
            = .next (request (({ s with openCount := s.openCount + 1 } : State).brokenOff work made)))
      ∧ (laneValue be v ≠ 1 ∨ s.shi.restarting = true → exec (.restartWrite be v) s = .next s)
      ∧ ∀ (work : SheetWork) (made : Nat),
        let b := s.brokenOff work made
        b.shi.fault = s.shi.fault ∧ b.shi.restarting = s.shi.restarting
        ∧ b.shi.scanPending = s.shi.scanPending ∧ b.hasEvent .sheetFault = s.hasEvent .sheetFault
        ∧ (work = .scan → s.shi.resuming = false → made ≤ 2 → b.world = s.world)
        ∧ (work = .reread → b.world = s.world ∧ b.shi.answers = s.shi.answers ∧ b.shi.held.Sublist s.shi.held
          ∧ (made = 0 → b = s))
        ∧ (work = .answer → made ≤ 1 → b.shi = s.shi ∧ b.outputs = s.outputs)
        ∧ ∀ (sheet : SheetIx) (x : StandingEntry) (r : Rewrite), work = .rewrite sheet → 1 ≤ made → made ≤ 3 →
          s.shi.fault = false → s.shi.restarting = false → s.shi.base ≠ 0 → s.shi.scan = none →
          s.world.busMaster = true → s.memoryOk → s.standingEntry sheet = some x →
          s.shi.rewrites.find? (fun r => r.sheet == sheet) = some r → r.words.length ≤ 92 →
            readWord b.world.mem (sheetAddress x.base sheet 140) = x.edition + 1 ∧ b.standingEntry sheet = some x

/-- R4, R25, R38, R64, R80, R113, R161, R180, R189: a soft restart that has been requested. That a framer's run, expected
number, misses and held fields become 0 with the rest is log entry 33, and that the list of judged numbers is emptied with
the Reassembler is log entry 25. -/
def Obligations.SoftRestartLeaves : Prop :=
  ∀ (env : List Outside) (s : State),
    let e := s.enter env (.softRestart env)
    let held := e.tsv.state = .locked ∨ e.tsv.state = .acquiring
    (e.shi.restarting = false → exec (.softRestart env) s = .next e)
      ∧ (e.shi.restarting = true → ∃ t, exec (.softRestart env) s = .next t
        ∧ t.shi.base = e.shi.base ∧ t.shi.carrierBFitted = e.shi.carrierBFitted ∧ t.shi.pendingHi = none
        ∧ t.shi.events = 0 ∧ t.shi.mask = 0 ∧ t.shi.fault = false ∧ t.shi.lastTaken = 31 ∧ t.shi.standing = []
        ∧ t.shi.held = [] ∧ t.shi.answers = [] ∧ t.shi.restarting = false ∧ t.shi.scanPending = false
        ∧ t.shi.resuming = false
        ∧ (∀ c : Carrier, t.cfr.get c = Framer.reset ∧ (t.lau.get c).table = (e.lau.get c).table
          ∧ (t.lau.get c).pin = none ∧ (t.lau.get c).outbound = Direction.reset
          ∧ (t.lau.get c).inbound = Direction.reset)
        ∧ t.pqu = Pqu.reset ∧ t.shc = Shc.reset ∧ t.ras = Ras.reset
        ∧ t.tru.verdicts = e.tru.verdicts ∧ t.tru.queue = [] ∧ t.tru.running = none
        ∧ t.phc.phase = .setup ∧ t.phc.gateFlag = e.phc.gateFlag
        ∧ t.tbs = { e.tbs with rate := t.tbs.rate }
        ∧ (held → e.tsv.history = [] → t.tsv.state = .freerun
          ∧ t.tbs.rate = max (-25000000) (min 25000000 e.tsv.params.manualRate))
        ∧ (held → e.tsv.history ≠ [] → t.tsv.state = .holdover ∧ t.tsv.holdoverSince = some e.tbs.advance
          ∧ t.tbs.rate = max (-25000000) (min 25000000 (e.tsv.history.sum.tdiv e.tsv.history.length)))
        ∧ (¬ held → t.tsv.state = e.tsv.state ∧ t.tbs.rate = e.tbs.rate)
        ∧ t.tsv.integral = e.tsv.integral ∧ t.tsv.history = e.tsv.history ∧ t.tsv.params = e.tsv.params
        ∧ t.tsv.selected = none ∧ t.tsv.label = none ∧ t.tsv.timingClass = classOf t.tsv.state t.tsv.history
        ∧ t.outputs = e.outputs ∧ t.world = e.world ∧ t.pending = e.pending)

/-! ### The Sheet Area -/

/-- R8, R9, R11, R18, R21: a scan with bus mastering enabled walks the 32 sheets from the one after the last taken,
wrapping from 31 to 0. It cancels each standing sheet it finds in another state than STANDING; that one found TAKEN with
its order still to be answered stays is log entry 16. It takes every sheet it finds FILLED: a held order of the sheet is
withdrawn, its state byte becomes TAKEN, it is held with the base of the scan and is the last taken, and its order goes to
the checks with the code, the count and the parameters of the sheet. That an order is carried out there and then, ahead of
the sheets behind it in the walk, is log entry 36. No other byte of host memory is written. A scan that finds no sheet
FILLED moves nothing but the Sheet Interface. A resumption is led to its end ahead of the walk, and where that finds no
sheet FILLED no answer is left waiting (no answer has more than 92 words, R13). -/
def Obligations.ScanTakesEveryFilledSheet : Prop :=
  (∀ (l : SheetIx) (k : Fin 32), (walk l)[k.val]? = some (l + 1 + k)) ∧
  ∀ (env : List Outside) (s : State),
    let e := s.enter env (.scan env)
    let state := fun (x : State) (i : SheetIx) => x.hostByteAt (sheetAddress e.scanBase i 0)
    let byte := fun (i : SheetIx) (n : Nat) => e.hostByteAt (sheetAddress e.scanBase i n)
    let params := fun (i : SheetIx) =>
      readWords e.world.mem (sheetAddress e.scanBase i 8) (min (byte i 2).toNat 32)
    let visit := fun (x : State) (i : SheetIx) =>
      let y := x.cancelFound i (state e i)
      if state e i = 1 then
        (((y.withdraw i).onWorld fun w =>
            { w with mem := writeBytes (sheetAddress e.scanBase i 0) [2] w.mem }).hold
          ⟨i, e.scanBase, byte i 1, params i⟩).checkOrder i (byte i 1) (byte i 2).toNat (params i)
      else y
    e.shi.fault = false → e.shi.restarting = false → e.world.busMaster = true → e.memoryOk →
      (e.shi.resuming = false → e.scanBase ≠ 0 →
        exec (.scan env) s = .next ((walk e.shi.lastTaken).foldl visit e).scanEnded
        ∧ ∃ t, exec (.scan env) s = .next t
        ∧ (∀ i : SheetIx, state t i = if state e i = 1 then 2 else state e i)
        ∧ (∀ a : Nat, (∀ i : SheetIx, a ≠ (sheetAddress e.scanBase i 0).toNat) →
          readByte t.world.mem a = readByte e.world.mem a)
        ∧ (∀ i : SheetIx, state e i = 1 → ∃ h ∈ t.shi.held, h.sheet = i ∧ h.base = e.scanBase
          ∧ h.code = byte i 1 ∧ h.params = params i)
        ∧ t.shi.lastTaken
          = (((walk e.shi.lastTaken).filter fun i => state e i = 1).getLast?).getD e.shi.lastTaken
        ∧ ((∀ i : SheetIx, state e i ≠ 1) →
          t.shi.held = e.shi.held ∧ t.shi.answers = e.shi.answers
          ∧ t.shi.standing = e.shi.standing.filter (fun x => state e x.sheet == 4
              || (state e x.sheet == 2 && (e.heldEntry x.sheet).isSome))
          ∧ t.cfr = e.cfr ∧ t.lau = e.lau ∧ t.pqu = e.pqu ∧ t.shc = e.shc ∧ t.slf = e.slf ∧ t.ras = e.ras ∧ t.tbs = e.tbs
          ∧ t.tsv = e.tsv ∧ t.tru = e.tru ∧ t.phc = e.phc ∧ t.world = e.world))
      ∧ (e.shi.resuming = true → ∃ t, exec (.scan env) s = .next t ∧ t.shi.resuming = false ∧ t.shi.fault = false
        ∧ ((∀ a ∈ e.shi.answers, a.words.length ≤ 92) →
          (e.scanBase = 0 ∨ ((∀ h ∈ e.shi.held, h.base = e.scanBase) ∧ ∀ i : SheetIx, state e i ≠ 1)) →
          t.shi.answers = [] ∧ t.cfr = e.cfr ∧ t.pqu = e.pqu ∧ t.shc = e.shc ∧ t.tbs = e.tbs
          ∧ t.tsv.state = e.tsv.state ∧ t.phc = e.phc))

/-- R10, R11: the three checks of an order taken from a sheet, in their order: its code, which is known from 1 to 16; the
phases that accept it; and the parameter count, which must not exceed 32 nor fall short of the order's naming part (that
of TEST is checked by its owner, R164). A PHASE order refused bears its four words (R183, log entry 30). One that passes
has the effect of the order's own command, the owner carrying it out at the taking (log entry 36). -/
def Obligations.OrdersAreChecked : Prop :=
  let every : List Phase := [.setup, .align, .commission, .service, .windDown]
  let catalogue : List (Order × List Phase × Nat) :=
    [(.phase, every, 1), (.carrierStart, [.align, .commission, .service], 1),
      (.carrierStop, [.align, .commission, .service, .windDown], 1), (.profileSet, every, 2), (.portSet, every, 1),
      (.channelSet, every, 1), (.tenantSet, [.setup, .align, .commission, .service], 1), (.tenantRetire, every, 1),
      (.timingSet, every, 0), (.ppsSet, every, 1), (.gnssLabel, every, 2), (.verdictSet, every, 2), (.test, every, 0),
      (.testStop, every, 1), (.standing, every, 1), (.read, every, 2)]
  ∀ (sheet : SheetIx) (code : Byte) (count : Nat) (params : List Word) (s : State),
    ((code = 0 ∨ 16 < code.toNat) → s.checkOrder sheet code count params = s.answer sheet .unknownOrder [])
      ∧ ∀ (k : Nat) (o : Order) (phases : List Phase) (naming : Nat), catalogue[k]? = some (o, phases, naming) →
        code.toNat = k + 1 →
        let refused := fun (a : AnswerCode) => s.answer sheet a
          (if k = 0 then [BitVec.ofNat 32 s.phc.phase.code, indexWord s.phc.gateFlag, if s.phc.gateOpen then 1 else 0,
            BitVec.ofNat 32 s.tsv.timingClass.code] else [])
        (s.phc.phase ∉ phases → s.checkOrder sheet code count params = refused .wrongPhase)
          ∧ (s.phc.phase ∈ phases → (32 < count ∨ count < naming) →
            s.checkOrder sheet code count params = refused .badParameter)
          ∧ (s.phc.phase ∈ phases → naming ≤ count → count ≤ 32 → o.command sheet params ∉ s.due →
            exec (o.command sheet params) s = .next (s.checkOrder sheet code count params))

/-- R14, R16, R192: the writing of the oldest waiting answer: the answer area, the code and the count, and for an accepted
STANDING order the edition 0. A sheet then found TAKEN becomes STANDING for an accepted STANDING order and ANSWERED for
any other, and ANSWER is added; one found in any other state keeps it, and no event is added. In both cases the sheet
leaves the held-sheets list, and no other byte of host memory changes. Two clauses are the model's choice: that the
edition is written ahead of the re-read, so that a discarded answer leaves it in the sheet (log entry 53), and that it is
written only while the sheet is still in the standing list (log entry 41). -/
def Obligations.AnswerIsWritten : Prop :=
  ∀ (env : List Outside) (s : State) (a : Answer) (more : List Answer) (h : Held),
    let e := s.enter env (.writeAnswer env)
    let place := fun (n : Nat) => sheetAddress h.base a.sheet n
    e.shi.fault = false → e.shi.restarting = false → e.world.busMaster = true → e.memoryOk →
    e.shi.answers = a :: more → e.heldEntry a.sheet = some h → a.words.length ≤ 92 →
      ∃ t, exec (.writeAnswer env) s = .next t
        ∧ t.hostByteAt (place 136) = BitVec.ofNat 8 a.code.code
        ∧ t.hostByteAt (place 137) = BitVec.ofNat 8 a.words.length
        ∧ t.hostByteAt (place 138) = 0 ∧ t.hostByteAt (place 139) = 0
        ∧ readWords t.world.mem (place 144) a.words.length = a.words
        ∧ readWord t.world.mem (place 140)
          = (if a.standing ∧ (e.standingEntry a.sheet).isSome then 0 else readWord e.world.mem (place 140))
        ∧ (∀ x : Nat, (∀ n, (n = 0 ∨ (136 ≤ n ∧ n < 144 + 4 * a.words.length)) → x ≠ (place n).toNat) →
          readByte t.world.mem x = readByte e.world.mem x)
        ∧ t.shi.answers = more ∧ t.heldEntry a.sheet = none
        ∧ (e.hostByteAt (place 0) = 2 →
          t.hostByteAt (place 0) = (if a.standing then 4 else 3) ∧ t.hasEvent .answer = true)
        ∧ (e.hostByteAt (place 0) ≠ 2 →
          t.hostByteAt (place 0) = e.hostByteAt (place 0) ∧ t.outputs = e.outputs
          ∧ t.shi = { e.shi with answers := more, held := e.shi.held.filter fun x => x.sheet != a.sheet })
        ∧ t.cfr = e.cfr ∧ t.lau = e.lau ∧ t.pqu = e.pqu ∧ t.shc = e.shc ∧ t.tbs = e.tbs ∧ t.tsv = e.tsv
        ∧ t.tru = e.tru ∧ t.phc = e.phc

/-- R20: at a bus error in work the part can then have in progress the fault is set, SHEET_FAULT is added and access
stops. In work other than a scan that finds a sheet FILLED, traffic, sharing and time are unaffected; the orders such a
scan has taken are carried out (R8). How the failed access is named, and that there is none to fail where no such work can
be in progress, is the model's choice (log entry 17), as are that the pending scan is dropped (log entry 24) and that the
steps on the Sheet Area still due are dropped (log entry 12). -/
def Obligations.BusErrorRaisesTheFault : Prop :=
  ∀ (env : List Outside) (work : SheetWork) (n : Nat) (s : State),
    let e := s.enter env (.busError env work n)
    (e.workStands work = false → exec (.busError env work n) s = .next e)
      ∧ (e.workStands work = true →
        ∃ t, exec (.busError env work n) s = .next t ∧ t.shi.fault = true ∧ t.hasEvent .sheetFault = true
          ∧ t.shi.scan = none ∧ t.shi.scanPending = false ∧ t.shi.resuming = false ∧ t.shi.rewrites = []
          ∧ (∀ env' i, .scan env' ∉ t.due ∧ .writeAnswer env' ∉ t.due ∧ .standingRewrite env' i ∉ t.due)
          ∧ (work ≠ .scan ∨ (e.shi.resuming = false ∧ ∀ i : SheetIx, e.hostByteAt (sheetAddress e.scanBase i 0) ≠ 1) →
            t.cfr = e.cfr ∧ t.pqu = e.pqu ∧ t.shc = e.shc ∧ t.slf = e.slf ∧ t.ras = e.ras ∧ t.tbs = e.tbs
            ∧ t.tru.verdicts = e.tru.verdicts ∧ t.phc = e.phc))
      ∧ (e.workStands .scan = true
        ↔ e.shi.restarting = false ∧ e.shi.fault = false ∧ (e.scanBase ≠ 0 ∨ e.resumeStands = true))
      ∧ ∀ sheet : SheetIx, e.workStands (.rewrite sheet) = true → ∃ r ∈ e.shi.rewrites, r.sheet = sheet

/-- R7, R17, R162: the rewrite of a standing sheet that waits makes the kept edition E + 2 and writes it into the sheet with
the report as it stood at the superframe start, and with its count; a VERDICTS report shows the sixteen records as they
stand at the rewrite. State and answer code stay. While a scan is in progress it waits on, and where none waits nothing is
rewritten. -/
def Obligations.StandingReportIsRewritten : Prop :=
  ∀ (env : List Outside) (sheet : SheetIx) (s : State),
    let e := s.enter env (.standingRewrite env sheet)
    ((e.shi.fault = true ∨ e.shi.restarting = true ∨ e.shi.base = 0 ∨ (∀ x ∈ e.shi.standing, x.sheet ≠ sheet)
        ∨ (∀ r ∈ e.shi.rewrites, r.sheet ≠ sheet)) → exec (.standingRewrite env sheet) s = .next e)
      ∧ ∀ (x : StandingEntry) (r : Rewrite),
        let place := fun (n : Nat) => sheetAddress x.base sheet n
        let words := if x.kind = .verdicts then e.tru.verdicts.toList.flatMap verdictWords else r.words
        e.shi.fault = false → e.shi.restarting = false → e.shi.base ≠ 0 → e.standingEntry sheet = some x →
        e.shi.rewrites.find? (fun r => r.sheet == sheet) = some r →
          (e.shi.scan ≠ none →
            exec (.standingRewrite env sheet) s = .next { e with due := e.due ++ [.standingRewrite [] sheet] })
          ∧ (e.shi.scan = none → e.world.busMaster = true → e.memoryOk → words.length ≤ 92 →
            ∃ t, exec (.standingRewrite env sheet) s = .next t
              ∧ t.standingEntry sheet = some { x with edition := x.edition + 2 }
              ∧ t.shi.rewrites = e.shi.rewrites.eraseP (fun r => r.sheet == sheet)
              ∧ readWord t.world.mem (place 140) = x.edition + 2
              ∧ t.hostByteAt (place 137) = BitVec.ofNat 8 words.length
              ∧ readWords t.world.mem (place 144) words.length = words
              ∧ t.hostByteAt (place 0) = e.hostByteAt (place 0) ∧ t.hostByteAt (place 136) = e.hostByteAt (place 136)
              ∧ t.cfr = e.cfr ∧ t.lau = e.lau ∧ t.pqu = e.pqu ∧ t.shc = e.shc ∧ t.tbs = e.tbs ∧ t.tsv = e.tsv
              ∧ t.tru = e.tru ∧ t.phc = e.phc ∧ t.outputs = e.outputs)

/-! ### Orders of the phases and the carriers -/

/-- R87, R91, R92, R183 to R188: PHASE orders with one word. A refused one stores nothing, and its answer carries phase,
gate flag, gate open and class as they stand. SETUP to ALIGN, and ALIGN to COMMISSION with a carrier in SYNC and far sync
reported on it, move the phase, recompute gate open, and change nothing else. ALIGN to SETUP stops the carriers, and so
does WIND_DOWN to SETUP, which purges every RETIRING tenant first (R92). SERVICE to WIND_DOWN retires every tenant that is
not VACANT with purge no (R91): where all eight are then VACANT the site goes on to SETUP in the same event. The words are
those of the carrying out, which for the order of a sheet is the taking (R183, log entry 36). That up to the
SUPERFRAME_START of a start already reached far sync is judged by the superframe before is log entry 68. That the order's
answer is the last handed over, behind that of a test which the move ends, is log entry 70. -/
def Obligations.PhaseOrders : Prop :=
  ∀ (sheet : SheetIx) (w : Word) (target : Phase) (s : State), decodePhase w = some target →
    let e := s.settle (.phase sheet [w])
    let words := [BitVec.ofNat 32 e.phc.phase.code, indexWord e.phc.gateFlag, if e.phc.gateOpen then 1 else 0,
      BitVec.ofNat 32 e.tsv.timingClass.code]
    let refused := fun (code : AnswerCode) => exec (.phase sheet [w]) s = .next (e.answer sheet code words)
    (target ≠ e.phc.phase →
      (e.phc.phase, target) ∉ ([(.setup, .align), (.align, .setup), (.align, .commission), (.commission, .service),
        (.service, .windDown), (.windDown, .setup)] : List (Phase × Phase)) → refused .wrongPhase)
      ∧ (e.phc.phase = .align → target = .commission →
        (∀ c : Carrier, e.fitted c = true → (e.cfr.get c).rx = .sync → e.farSyncReported c = false) →
        refused .notReady)
      ∧ (e.phc.phase = .commission → target = .service →
        ((∃ r, e.tru.running = some r ∧ (r.kind = .loopBerOut ∨ r.kind = .delayCal)) → refused .busy)
        ∧ ((∀ r, e.tru.running = some r → r.kind ≠ .loopBerOut ∧ r.kind ≠ .delayCal) →
          (e.tsv.timingClass = .none ∨ ∃ f, e.phc.gateFlag = some f ∧ e.verdict f ≠ .pass) → refused .notReady))
      ∧ ((e.phc.phase = .setup ∧ target = .align)
          ∨ (e.phc.phase = .align ∧ target = .commission
            ∧ ∃ c : Carrier, e.fitted c = true ∧ (e.cfr.get c).rx = .sync ∧ e.farSyncReported c = true) →
        ∃ gate : Bool, (gate = true ↔ ∀ f, e.phc.gateFlag = some f → e.verdict f = .pass)
          ∧ exec (.phase sheet [w]) s
            = .next (({ e with phc := { e.phc with phase := target, gateOpen := gate } } : State).answer sheet .done
              [BitVec.ofNat 32 target.code, indexWord e.phc.gateFlag, if gate then 1 else 0,
                BitVec.ofNat 32 e.tsv.timingClass.code]))
      ∧ (let stopped := fun (x : TxState) => if x = .off ∨ x = .starting then TxState.off else .draining
        let empty := fun (k : Tenant) => ∀ ch : Channel, ch ≠ 63 → (e.channel ch).owner = some k → (e.channel ch).queue = []
        let served := fun (k : Tenant) => (e.contract k).state = .admitted ∨ (e.contract k).state = .held
        let gone := fun (k : Tenant) =>
          (e.contract k).state = .vacant ∨ (e.contract k).state = .pending ∨ (served k ∧ empty k)
        let entered := fun (p : Phase) (t : State) => exec (.phase sheet [w]) s = .next t ∧ t.phc.phase = p
          ∧ t.phc.gateFlag = e.phc.gateFlag
          ∧ t.shi.answers.getLast? = some ⟨sheet, .done, [BitVec.ofNat 32 p.code, indexWord t.phc.gateFlag,
              if t.phc.gateOpen then 1 else 0, BitVec.ofNat 32 e.tsv.timingClass.code], false⟩
          ∧ (∀ c : Carrier, (t.cfr.get c).tx = if p = .setup then stopped (e.cfr.get c).tx else (e.cfr.get c).tx)
          ∧ t.tbs = e.tbs
        (e.phc.phase = .align → target = .setup →
            ∃ t, entered .setup t ∧ t.shc = e.shc ∧ ∀ ch : Channel, (t.channel ch).queue = (e.channel ch).queue)
          ∧ (e.phc.phase = .windDown → target = .setup → ∃ t, entered .setup t
            ∧ ∀ k : Tenant, ((e.contract k).state ≠ .retiring → t.contract k = e.contract k)
              ∧ ((e.contract k).state = .retiring → t.contract k = Contract.reset ∧ t.hasEvent .tenant = true
                ∧ ∀ ch : Channel, ch ≠ 63 → (e.channel ch).owner = some k → (t.channel ch).queue = []
                  ∧ (t.channel ch).owner = none
                  ∧ (t.channel ch).purged = (e.channel ch).purged + BitVec.ofNat 32 (e.channel ch).queue.length))
          ∧ (e.phc.phase = .service → target = .windDown →
            ((∀ k : Tenant, gone k) → ∃ t, entered .setup t ∧ ∀ k : Tenant, (t.contract k).state = .vacant)
            ∧ ((∃ k : Tenant, ¬ gone k) → ∃ t, entered .windDown t ∧ t.cfr = e.cfr ∧ t.lau = e.lau ∧ t.tsv = e.tsv
              ∧ t.tru = e.tru ∧ (∀ ch : Channel, (t.channel ch).queue = (e.channel ch).queue)
              ∧ ∀ k : Tenant,
                ((e.contract k).state = .vacant ∨ (e.contract k).state = .retiring → t.contract k = e.contract k)
                ∧ ((e.contract k).state = .pending ∨ (served k ∧ empty k) → t.contract k = Contract.reset)
                ∧ (served k → ¬ empty k → t.contract k = { e.contract k with state := .retiring }))))

/-- R84, R185: entry to SERVICE admits each PENDING tenant whose admission verdict allows it, ADMITTED when the class
meets its requirement and HELD when not; every other tenant keeps its state. -/
def Obligations.EntryToServiceAdmits : Prop :=
  ∀ (sheet : SheetIx) (s : State),
    let e := s.settle (.phase sheet [3])
    e.phc.phase = .commission → e.phc.gateFlag = none → e.tsv.timingClass ≠ .none →
    (∀ r, e.tru.running = some r → r.kind ≠ .loopBerOut ∧ r.kind ≠ .delayCal) →
      ∃ t, exec (.phase sheet [3]) s = .next t ∧ t.phc.phase = .service
        ∧ (∀ k : Tenant, t.contract k = { e.contract k with
            state :=
              if (e.contract k).state = .pending ∧ (∀ f, (e.contract k).verdict = some f → e.verdict f = .pass) then
                (if (e.contract k).requirement.code ≤ e.tsv.timingClass.code then .admitted else .held)
              else (e.contract k).state })
        ∧ t.cfr = e.cfr ∧ t.lau = e.lau ∧ t.pqu = e.pqu ∧ t.tbs = e.tbs ∧ t.tsv = e.tsv ∧ t.tru = e.tru

/-- R35: CARRIER_START of no carrier or of carrier B where it is not fitted, and of a carrier by its transmit state; from
OFF it sends its first superframe at the next superframe start. The phases are those of R10: SETUP and WIND_DOWN refuse
the order. -/
def Obligations.CarrierStartByTransmitState : Prop :=
  ∀ (sheet : SheetIx) (w : Word) (rest : List Word) (s : State) (c : Carrier),
    let e := s.settle (.carrierStart sheet (w :: rest))
    let answered := fun (code : AnswerCode) => exec (.carrierStart sheet (w :: rest)) s = .next (e.answer sheet code [])
    (e.phc.phase = .setup ∨ e.phc.phase = .windDown → answered .wrongPhase)
      ∧ (e.phc.phase ≠ .setup → e.phc.phase ≠ .windDown → (2 ≤ w.toNat ∨ (w = 1 ∧ e.shi.carrierBFitted = false)) →
        answered .badParameter)
      ∧ (e.phc.phase ≠ .setup → e.phc.phase ≠ .windDown →
        ((w = 0 ∧ c = .a) ∨ (w = 1 ∧ c = .b ∧ e.shi.carrierBFitted = true)) →
        ((e.cfr.get c).tx = .off → ∃ t, exec (.carrierStart sheet (w :: rest)) s = .next t
          ∧ t.cfr = e.cfr.modify c (fun f => { f with tx := .starting, rx := .hunt })
          ∧ t.hasEvent .carrier = true ∧ t.shi.answers = e.shi.answers ++ [⟨sheet, .done, [], false⟩]
          ∧ t.lau = e.lau ∧ t.pqu = e.pqu ∧ t.shc = e.shc ∧ t.ras = e.ras ∧ t.tbs = e.tbs ∧ t.tsv = e.tsv
          ∧ t.tru = e.tru ∧ t.phc = e.phc ∧ t.world = e.world
          ∧ ∃ u sent, exec (.superframeStart []) t = .next u ∧ .superframe c sent ∈ u.outputs.drop t.outputs.length)
        ∧ (((e.cfr.get c).tx = .starting ∨ (e.cfr.get c).tx = .running) → answered .done)
        ∧ ((e.cfr.get c).tx = .draining → answered .busy))

/-- R10, R37, R42, R46: CARRIER_STOP in SETUP; in the other phases of no carrier or of carrier B where it is not fitted,
and by the transmit state of carrier A. From RUNNING the last planned superframe is the one in progress before its plan
point and the next one after it. That the order's answer is the last handed over, behind that of a test which the stop
ends, is log entry 70. That up to the SUPERFRAME_START of a start already reached the superframe in progress is the one
before is log entry 68. -/
def Obligations.CarrierStopByTransmitState : Prop :=
  ∀ (sheet : SheetIx) (s : State),
    let e := s.settle (.carrierStop sheet [0])
    (e.phc.phase = .setup → exec (.carrierStop sheet [0]) s = .next (e.answer sheet .wrongPhase []))
      ∧ (e.phc.phase ≠ .setup → ∀ w : Word, (2 ≤ w.toNat ∨ (w = 1 ∧ s.shi.carrierBFitted = false)) →
        exec (.carrierStop sheet [w]) s = .next ((s.settle (.carrierStop sheet [w])).answer sheet .badParameter []))
      ∧ (e.phc.phase ≠ .setup → (e.cfr.a.tx = .off ∨ e.cfr.a.tx = .draining) →
        exec (.carrierStop sheet [0]) s = .next (e.answer sheet .done []))
      ∧ (e.phc.phase ≠ .setup → e.cfr.a.tx = .running → ∃ t, exec (.carrierStop sheet [0]) s = .next t
        ∧ t.cfr = { e.cfr with a := { e.cfr.a with
            tx := .draining
            lastPlanned := if e.tbs.planDone then e.tbs.superframe + 1 else e.tbs.superframe } }
        ∧ t.hasEvent .carrier = true ∧ t.shi.answers.getLast? = some ⟨sheet, .done, [], false⟩
        ∧ t.pqu = e.pqu ∧ t.ras = e.ras ∧ t.tbs = e.tbs ∧ t.tsv = e.tsv ∧ t.shc = e.shc)
      ∧ (e.phc.phase ≠ .setup → e.cfr.a.tx = .starting → ∃ t, exec (.carrierStop sheet [0]) s = .next t
        ∧ t.cfr.a.tx = .off ∧ t.cfr.a.rx = .hunt ∧ t.cfr.a.farSync = none ∧ t.cfr.a.departures = []
        ∧ t.cfr.b = e.cfr.b ∧ t.hasEvent .carrier = true ∧ t.ras.carriers.a.last = none
        ∧ t.shi.answers.getLast? = some ⟨sheet, .done, [], false⟩ ∧ t.tbs = e.tbs ∧ t.tsv = e.tsv)

/-! ### Orders on the tables -/

/-- R50, R51: a whole PROFILE_SET of P1 to P7 of carrier A; one that gives no field changes nothing. That one which names
P0 changes nothing whatever follows is the model's reading of R50 (log entry 34), and that a down threshold of 1 to 9
below the up threshold stands is its reading of the closing words of R51 (log entry 35). Carrier B and the clearing of the
step-up counts (R63) are not spoken of. -/
def Obligations.ProfileSetReplacesTheEntry : Prop :=
  ∀ (sheet : SheetIx) (p : Profile) (up down verdict : Word) (v : Option FlagIx) (s : State),
    let params : List Word := [0, BitVec.ofNat 32 p.val, up, down, verdict]
    let e := s.settle (.profileSet sheet params)
    let up' := if up.toNat < 10 then 10 else if 600 < up.toNat then 600 else up.toNat
    let down1 := if 600 < down.toNat then 600 else down.toNat
    let down' := if up' ≤ down1 then up' - 10 else down1
    (∀ (q : Word) (rest : List Word), (q = 0 ∨ (q.toNat < 8 ∧ rest = [])) →
        exec (.profileSet sheet (0 :: q :: rest)) s
          = .next ((s.settle (.profileSet sheet (0 :: q :: rest))).answer sheet .done []))
      ∧ (p ≠ 0 → ((verdict = 0xFFFFFFFF ∧ v = none) ∨ ∃ f : FlagIx, verdict = BitVec.ofNat 32 f.val ∧ v = some f) →
        ∃ t, exec (.profileSet sheet params) s = .next t
          ∧ t.lau.a.table[p] = { e.lau.a.table[p] with up := up', down := down', verdict := v }
          ∧ (∀ q : Profile, q ≠ p → t.lau.a.table[q] = e.lau.a.table[q]) ∧ t.lau.b = e.lau.b
          ∧ t.shi.answers = e.shi.answers
            ++ [⟨sheet, if up' = up.toNat ∧ down' = down.toNat then .done else .adjusted, [], false⟩]
          ∧ t.shi.events = e.shi.events ∧ t.cfr = e.cfr ∧ t.pqu = e.pqu ∧ t.shc = e.shc ∧ t.tbs = e.tbs ∧ t.tsv = e.tsv
          ∧ t.tru = e.tru ∧ t.phc = e.phc)

/-- R66: PORT_SET. -/
def Obligations.PortSetReplacesTheEntry : Prop :=
  ∀ (sheet : SheetIx) (port : Word) (rest : List Word) (s : State),
    let e := s.settle (.portSet sheet (port :: rest))
    let answered := fun (x : State) (code : AnswerCode) =>
      exec (.portSet sheet (port :: rest)) s = .next (x.answer sheet code [])
    (6 ≤ port.toNat → answered e .badParameter)
      ∧ ∀ p : Port, port.toNat = p.val →
        ((∃ w, rest[0]? = some w ∧ 8 ≤ w.toNat ∧ w ≠ 0xFFFFFFFF) → answered e .badParameter)
        ∧ ((∃ w, rest[1]? = some w ∧ 63 ≤ w.toNat) → answered e .badParameter)
        ∧ (rest = [] → answered e .done)
        ∧ ∀ (tenant : Option Tenant) (ch : Channel),
          ((rest[0]? = none ∧ tenant = (e.port p).tenant) ∨ (rest[0]? = some 0xFFFFFFFF ∧ tenant = none)
            ∨ ∃ k : Tenant, rest[0]? = some (BitVec.ofNat 32 k.val) ∧ tenant = some k) →
          ((rest[1]? = none ∧ ch = (e.port p).defaultChannel)
            ∨ (rest[1]? = some (BitVec.ofNat 32 ch.val) ∧ ch.val ≤ 62)) →
          answered { e with pqu := { e.pqu with
            ports := e.pqu.ports.set p.val { e.pqu.ports[p] with tenant := tenant, defaultChannel := ch } } } .done

/-- R69: a whole CHANNEL_SET: a new owner is refused while frames are queued, a limit of 0 or above 4,096 is refused, and
otherwise the entry takes the fields. -/
def Obligations.ChannelSetReplacesTheEntry : Prop :=
  ∀ (sheet : SheetIx) (ch : Channel) (owner : Tenant) (priority : Fin 4) (limit age : Word) (port : Port) (s : State),
    let params : List Word := [BitVec.ofNat 32 ch.val, BitVec.ofNat 32 owner.val, BitVec.ofNat 32 priority.val, limit, age,
      BitVec.ofNat 32 port.val]
    let e := s.settle (.channelSet sheet params)
    let answered := fun (x : State) (code : AnswerCode) =>
      exec (.channelSet sheet params) s = .next (x.answer sheet code [])
    (ch = 63 → answered e .badParameter)
      ∧ (ch ≠ 63 → (limit = 0 ∨ 4096 < limit.toNat ∨ 65535 < age.toNat) → answered e .badParameter)
      ∧ (ch ≠ 63 → 1 ≤ limit.toNat → limit.toNat ≤ 4096 → age.toNat ≤ 65535 →
        ((e.channel ch).owner ≠ some owner → (e.channel ch).queue ≠ [] → answered e .busy)
        ∧ ((e.channel ch).owner = some owner ∨ (e.channel ch).queue = [] →
          ∃ t, exec (.channelSet sheet params) s = .next t
            ∧ t.channel ch = { e.channel ch with
                owner := some owner, priority := priority, limit := limit.toNat, maxAge := age.toNat,
                egressPort := some port }
            ∧ (∀ x : Channel, x ≠ ch → t.channel x = e.channel x)
            ∧ t.pqu = { e.pqu with channels := t.pqu.channels }
            ∧ t.shi = { e.shi with answers := e.shi.answers ++ [⟨sheet, .done, [], false⟩] }
            ∧ t.cfr = e.cfr ∧ t.lau = e.lau ∧ t.shc = e.shc ∧ t.tbs = e.tbs ∧ t.tsv = e.tsv ∧ t.tru = e.tru
            ∧ t.phc = e.phc))

/-- R10, R82, R83, R91: a TENANT_SET in WIND_DOWN is answered WRONG_PHASE. In the other phases one of a RETIRING tenant is
answered BUSY, and one of a VACANT tenant outside SERVICE creates it PENDING with its contract clamped. -/
def Obligations.TenantSetCreatesOrIsBusy : Prop :=
  ∀ (sheet : SheetIx) (k : Tenant) (c w p : Word) (s : State),
    let params : List Word := [BitVec.ofNat 32 k.val, c, w, p]
    let e := s.settle (.tenantSet sheet params)
    let c' := min c.toNat 114688
    let w' := min w.toNat 255
    let p' := max c' (min p.toNat 114688)
    (e.phc.phase = .windDown → exec (.tenantSet sheet params) s = .next (e.answer sheet .wrongPhase []))
      ∧ ((e.contract k).state = .retiring → e.phc.phase ≠ .windDown →
        exec (.tenantSet sheet params) s = .next (e.answer sheet .busy []))
      ∧ ((e.contract k).state = .vacant → e.phc.phase ≠ .service → e.phc.phase ≠ .windDown → ∃ t, exec (.tenantSet sheet params) s = .next t
        ∧ t.contract k = { Contract.reset with
            state := .pending
            committed := c'
            weight := w'
            peak := p' }
        ∧ (∀ j : Tenant, j ≠ k → t.contract j = e.contract j) ∧ t.shc = { e.shc with contracts := t.shc.contracts }
        ∧ t.hasEvent .tenant = true
        ∧ t.shi.answers = e.shi.answers
          ++ [⟨sheet, if c' = c.toNat ∧ w' = w.toNat ∧ p' = p.toNat then .done else .adjusted, [], false⟩]
        ∧ t.pqu = e.pqu ∧ t.cfr = e.cfr ∧ t.ras = e.ras ∧ t.tsv = e.tsv ∧ t.tru = e.tru ∧ t.phc = e.phc)

/-- R87 to R90, R188: TENANT_RETIRE. With purge yes, of a tenant that is not VACANT: the entry returns to its reset
values, no channel and no port names the tenant, and every frame of its channels has left, counted as purged, and a frame
of the tenant that arrives at the same moment is dropped as not admitted, the moment being that of one counter advance
(R88, log entry 61); in WIND_DOWN the site goes on to SETUP when it was the last one, and its carriers are stopped. With
purge no, given or left out, outside WIND_DOWN, by the tenant's state: a VACANT one has its ports and channels cleared
again, a PENDING one and one without a queued frame become VACANT and give up their inbound frame in progress, which
counts as dropped (R128), an ADMITTED or HELD one with frames becomes RETIRING and keeps them, and a RETIRING one stays.
That the order's answer is the last handed over, behind that of a test which the return ends, is log entry 70. -/
def Obligations.TenantRetireWithPurge : Prop :=
  (∀ (sheet : SheetIx) (k : Tenant) (s : State),
    let params : List Word := [BitVec.ofNat 32 k.val, 1]
    let e := s.settle (.tenantRetire sheet params)
    (e.contract k).state ≠ .vacant → e.phc.phase ≠ .windDown →
      ∃ t, exec (.tenantRetire sheet params) s = .next t
        ∧ t.contract k = Contract.reset ∧ (∀ j : Tenant, j ≠ k → t.contract j = e.contract j)
        ∧ (∀ ch : Channel, (t.channel ch).owner ≠ some k) ∧ (∀ p : Port, (t.port p).tenant ≠ some k)
        ∧ (∀ ch : Channel, ch ≠ 63 → (e.channel ch).owner = some k → (t.channel ch).queue = []
          ∧ (t.channel ch).purged = (e.channel ch).purged + BitVec.ofNat 32 (e.channel ch).queue.length)
        ∧ (∀ ch : Channel, (e.channel ch).owner ≠ some k → (t.channel ch).queue = (e.channel ch).queue)
        ∧ (t.outStream k).inProgress = none ∧ t.inStream k = .hunting ∧ t.hasEvent .tenant = true
        ∧ t.shi.answers = e.shi.answers ++ [⟨sheet, .done, [], false⟩]
        ∧ t.cfr = e.cfr ∧ t.lau = e.lau ∧ t.tbs = e.tbs ∧ t.tsv = e.tsv ∧ t.tru = e.tru ∧ t.phc = e.phc
        ∧ ∀ (p : Port) (ch : Channel) (bytes : List Byte), (e.port p).tenant = some k → (e.channel ch).owner = some k →
          ch ≠ 63 → (bytes.head?.map fun b => b.toNat) = some (128 + ch.val) → 64 ≤ bytes.length → bytes.length ≤ 1536 →
            ∃ u, exec (.arrival [] p bytes true) t = .next u ∧ u.pqu.notAdmitted[k] = t.pqu.notAdmitted[k] + 1
              ∧ u.port p = { t.port p with ingress := (t.port p).ingress + 1 } ∧ u.pqu.channels = t.pqu.channels)
  ∧ (∀ (sheet : SheetIx) (k : Tenant) (s : State),
    let params : List Word := [BitVec.ofNat 32 k.val, 1]
    let e := s.settle (.tenantRetire sheet params)
    let last := ∀ j : Tenant, j ≠ k → (e.contract j).state = .vacant
    (e.contract k).state ≠ .vacant → e.phc.phase = .windDown → ∃ t, exec (.tenantRetire sheet params) s = .next t
      ∧ (∀ j : Tenant, (t.contract j).state = if j = k then .vacant else (e.contract j).state)
      ∧ t.hasEvent .tenant = true ∧ t.shi.answers.getLast? = some ⟨sheet, .done, [], false⟩
      ∧ (last → t.phc.phase = .setup ∧ ∀ c : Carrier, (t.cfr.get c).tx
          = if (e.cfr.get c).tx = .off ∨ (e.cfr.get c).tx = .starting then .off else .draining)
      ∧ (¬ last → t.phc = e.phc ∧ t.cfr = e.cfr))
  ∧ ∀ (sheet : SheetIx) (k : Tenant) (params : List Word) (s : State),
    let e := s.settle (.tenantRetire sheet params)
    let empty := ∀ ch : Channel, ch ≠ 63 → (e.channel ch).owner = some k → (e.channel ch).queue = []
    let served := (e.contract k).state = .admitted ∨ (e.contract k).state = .held
    let lost : Channel → Word := fun ch =>
      match e.inStream k with
      | .collecting (some f) => if f.channel = ch then 1 else 0
      | .collecting none | .hunting => 0
    let cleared := fun (lost : Channel → Word) (t : State) => exec (.tenantRetire sheet params) s = .next t
      ∧ (∀ ch : Channel, t.channel ch = { e.channel ch with
          owner := if (e.channel ch).owner = some k then none else (e.channel ch).owner
          dropped := (e.channel ch).dropped + lost ch })
      ∧ (∀ p : Port, t.port p = { e.port p with
          tenant := if (e.port p).tenant = some k then none else (e.port p).tenant })
      ∧ t.shi.answers = e.shi.answers ++ [⟨sheet, .done, [], false⟩]
      ∧ t.cfr = e.cfr ∧ t.lau = e.lau ∧ t.slf = e.slf ∧ t.tbs = e.tbs ∧ t.tsv = e.tsv ∧ t.tru = e.tru ∧ t.phc = e.phc
    (params = [BitVec.ofNat 32 k.val] ∨ params = [BitVec.ofNat 32 k.val, 0]) → e.phc.phase ≠ .windDown →
      ((e.contract k).state = .retiring → exec (.tenantRetire sheet params) s = .next (e.answer sheet .done []))
      ∧ ((e.contract k).state = .vacant → ∃ t, cleared (fun _ => 0) t ∧ t.shc = e.shc ∧ t.ras = e.ras
        ∧ t.shi.events = e.shi.events)
      ∧ ((e.contract k).state = .pending ∨ (served ∧ empty) → ∃ t, cleared lost t ∧ t.contract k = Contract.reset
        ∧ (∀ j : Tenant, j ≠ k → t.contract j = e.contract j) ∧ t.inStream k = .hunting ∧ t.hasEvent .tenant = true)
      ∧ (served → ¬ empty → ∃ t, exec (.tenantRetire sheet params) s = .next t
        ∧ t.contract k = { e.contract k with state := .retiring }
        ∧ (∀ j : Tenant, j ≠ k → t.contract j = e.contract j) ∧ t.hasEvent .tenant = true
        ∧ t.shi.answers = e.shi.answers ++ [⟨sheet, .done, [], false⟩]
        ∧ t.pqu = e.pqu ∧ t.slf = e.slf ∧ t.ras = e.ras ∧ t.cfr = e.cfr ∧ t.lau = e.lau ∧ t.tbs = e.tbs ∧ t.tsv = e.tsv
        ∧ t.tru = e.tru ∧ t.phc = e.phc)

/-- R158, R159: a whole TIMING_SET outside FREERUN and HOLDOVER: each value set to the nearer end of its range. -/
def Obligations.TimingSetClampsItsValues : Prop :=
  ∀ (sheet : SheetIx) (pg pa pb : Fin 3) (window threshold limit kp ki cable rate : Word) (s : State),
    let params : List Word := [BitVec.ofNat 32 pg.val, BitVec.ofNat 32 pa.val, BitVec.ofNat 32 pb.val, window, threshold,
      limit, kp, ki, cable, rate]
    let e := s.settle (.timingSet sheet params)
    let new : ServoParams :=
      { lockWindow := max 10 (min 10000 window.toNat)
        stepThreshold := max 100 (min 1000000 threshold.toNat)
        holdoverLimit := max 60 (min 86400 limit.toNat)
        kp := min 15 kp.toNat
        ki := min 20 ki.toNat
        cableDelay := min 1000000 cable.toNat
        manualRate := max (-25000000) (min 25000000 rate.toInt) }
    let given : ServoParams :=
      { lockWindow := window.toNat, stepThreshold := threshold.toNat, holdoverLimit := limit.toNat, kp := kp.toNat,
        ki := ki.toNat, cableDelay := cable.toNat, manualRate := rate.toInt }
    e.tsv.state ≠ .freerun → e.tsv.state ≠ .holdover →
      exec (.timingSet sheet params) s
        = .next (({ e with tsv := { e.tsv with
            gnss := { e.tsv.gnss with priority := some pg }
            linkA := { e.tsv.linkA with priority := some pa }
            linkB := { e.tsv.linkB with priority := some pb }
            params := new } } : State).answer sheet (if new = given then .done else .adjusted) [])

/-- R136: a whole PPS_SET: the given fields replace those of the record, the offset set to the nearer end of its range;
the guard and the pin stay. The new settings apply from the next pulse instant that advance reaches after the order: one
that is due when the order is taken is made first, by the settings before it (log entry 57). -/
def Obligations.PpsSetReplacesTheRecord : Prop :=
  ∀ (sheet : SheetIx) (o : PpsOut) (enable : Bool) (offset : Word) (cls : TimingClass) (s : State),
    let params : List Word := [BitVec.ofNat 32 o.val, if enable then 1 else 0, offset, BitVec.ofNat 32 cls.code]
    let e := s.settle (.ppsSet sheet params)
    let offset' := if offset.toInt < -500000 then -500000 else if 500000 < offset.toInt then 500000 else offset.toInt
    let set := fun (x : State) => ({ x with tbs := { x.tbs with
        pps := x.tbs.pps.set o.val { x.tbs.pps[o] with enable := enable, offset := offset', squelch := cls } } }
      : State).answer sheet (if offset' = offset.toInt then .done else .adjusted) []
    (.ppsPulseInstant [] o ∉ e.due → exec (.ppsSet sheet params) s = .next (set e))
      ∧ (.ppsPulseInstant [] o ∈ e.due → ∃ u, exec (.ppsPulseInstant [] o) e = .next u
        ∧ exec (.ppsSet sheet params) s = .next (set u))

/-- R149, R190: GNSS_LABEL. -/
def Obligations.GnssLabelBecomesPending : Prop :=
  ∀ (sheet : SheetIx) (low high : Word) (s : State),
    let e := s.settle (.gnssLabel sheet [low, high])
    (0xFFFF < high.toNat → exec (.gnssLabel sheet [low, high]) s = .next (e.answer sheet .badParameter []))
      ∧ (high.toNat ≤ 0xFFFF → e.tsv.label ≠ none →
        exec (.gnssLabel sheet [low, high]) s = .next (e.answer sheet .busy []))
      ∧ (high.toNat ≤ 0xFFFF → e.tsv.label = none → ∃ v : Seconds, v.toNat = high.toNat * 2 ^ 32 + low.toNat
        ∧ exec (.gnssLabel sheet [low, high]) s
          = .next { e with tsv := { e.tsv with label := some ⟨v, some sheet⟩ } })

/-- R162, R163: VERDICT_SET of a flag and a value. A write that leaves the value hands nothing on; one that changes it
adds VERDICT and has gate open recomputed. That a write between the reaching of a superframe start and its
SUPERFRAME_START bears the number of the superframe that starts is log entry 68. -/
def Obligations.VerdictSetWritesTheFlag : Prop :=
  ∀ (sheet : SheetIx) (f : FlagIx) (v : VerdictValue) (s : State),
    let params : List Word := [BitVec.ofNat 32 f.val, BitVec.ofNat 32 v.code]
    let e := s.settle (.verdictSet sheet params)
    let n := if e.tbs.starting then e.tbs.superframe + 1 else e.tbs.superframe
    let entry : Verdict :=
      { value := v
        writer := if v = .unset then none else some .order
        superframe := if v = .unset then none else some n }
    (v = e.verdict f →
        exec (.verdictSet sheet params) s
          = .next (({ e with tru := { e.tru with verdicts := e.tru.verdicts.set f.val entry } } : State).answer sheet .done []))
      ∧ (v ≠ e.verdict f → ∃ t, exec (.verdictSet sheet params) s = .next t
        ∧ t.tru = { e.tru with verdicts := e.tru.verdicts.set f.val entry } ∧ t.hasEvent .verdict = true
        ∧ (t.phc.gateOpen = true ↔ ∀ g, e.phc.gateFlag = some g → t.verdict g = .pass)
        ∧ t.phc.phase = e.phc.phase ∧ t.phc.gateFlag = e.phc.gateFlag
        ∧ t.shi.answers = e.shi.answers ++ [⟨sheet, .done, [], false⟩]
        ∧ t.cfr = e.cfr ∧ t.pqu = e.pqu ∧ t.ras = e.ras ∧ t.tbs = e.tbs ∧ t.tsv = e.tsv)

/-- R164 to R166, R168: a TIME_CHECK order with its whole list joins the end of the queue with N clamped to 1 to 3,600,
unanswered; with four tests waiting it is answered NO_ROOM; a shorter list is answered BAD_PARAMETER. TEST_STOP of a
waiting test takes it out and answers it STOPPED; of no test it is answered BAD_PARAMETER. At a superframe start with no
test running, whose re-read finds the held test sheets TAKEN, the head of the queue is tried: in a phase or on a carrier
that does not let it start it leaves unrun with WRONG_PHASE or NOT_READY, and otherwise it starts with that superframe as
its start and takes its pin, its slots and its loop request. -/
def Obligations.TestOrdersAndTheQueue : Prop :=
  ∀ (sheet : SheetIx) (s : State),
    (∀ (n limit : Word),
      let params : List Word := [5, 0, n, 0xFFFFFFFF, limit]
      let e := s.settle (.test sheet params)
      let n' := max 1 (min 3600 n.toNat)
      (4 ≤ e.tru.queue.length → exec (.test sheet params) s = .next (e.answer sheet .noRoom []))
        ∧ (e.tru.queue.length < 4 →
          exec (.test sheet params) s = .next { e with tru := { e.tru with
            queue := e.tru.queue ++ [⟨sheet, .timeCheck .a n' none limit.toNat, n' != n.toNat⟩] } })
        ∧ exec (.test sheet [5, 0, n, 0xFFFFFFFF]) s
          = .next ((s.settle (.test sheet [5, 0, n, 0xFFFFFFFF])).answer sheet .badParameter []))
      ∧ (∀ target : SheetIx,
        let params : List Word := [BitVec.ofNat 32 target.val]
        let e := s.settle (.testStop sheet params)
        (∀ (before after : List TestRecord) (r : TestRecord), e.tru.queue = before ++ r :: after → r.sheet = target →
            (∀ x ∈ before ++ after, x.sheet ≠ target) →
            exec (.testStop sheet params) s
              = .next ((({ e with tru := { e.tru with queue := before ++ after } } : State).answer target .stopped
                [if r.clamped then 1 else 0]).answer sheet .done []))
          ∧ ((∀ x ∈ e.tru.queue, x.sheet ≠ target) → (∀ r, e.tru.running = some r → r.record.sheet ≠ target) →
            exec (.testStop sheet params) s = .next (e.answer sheet .badParameter [])))
      ∧ ∀ (env : List Outside) (r : TestRecord) (rest : List TestRecord),
        let e := s.enter env (.superframeStart env)
        let c := r.params.carrier
        let f := e.cfr.get c
        let phases : List Phase :=
          match r.params.kind with
          | .sweep => [.align, .commission]
          | .loopBerOut | .delayCal => [.commission]
          | .loopBerIn | .timeCheck => [.commission, .service]
        let ready := if r.params.kind = .sweep then f.tx = .starting ∨ f.tx = .running
          else f.tx = .running ∧ (f.rx = .sync ∨ f.rx = .flywheel)
        e.tru.running = none → e.tru.queue = r :: rest → e.phc.phase ≠ .windDown →
          (∀ h ∈ e.testSheets, e.world.busMaster = true ∧ e.hostByteAt (sheetAddress h.base h.sheet 0) = 2) →
          (e.phc.phase ∈ phases → ready → ∃ t x, exec (.superframeStart env) s = .next t
            ∧ t.tru.running = some x ∧ x.record = r ∧ x.start = e.tbs.superframe + 1 ∧ x.acknowledged = false
            ∧ t.tru.queue = rest ∧ t.tru.verdicts = e.tru.verdicts ∧ t.shi.answers = e.shi.answers
            ∧ t.tru.holdings.get c = (match r.params with
              | .sweep .. | .timeCheck .. => { requirement := .none, echo := false }
              | .loopBerOut .. | .delayCal .. => { requirement := .whole, echo := true }
              | .loopBerIn _ k _ _ _ => { requirement := .slots k, echo := true })
            ∧ (t.lau.get c).pin = (match r.params with
              | .loopBerOut _ p _ _ _ => some { outbound := p, inbound := p, alternation := false }
              | .delayCal _ p _ _ => some { outbound := p, inbound := 0, alternation := true }
              | .sweep .. | .loopBerIn .. | .timeCheck .. => (e.lau.get c).pin))
          ∧ (rest = [] → (e.phc.phase ∉ phases ∨ ¬ ready) → ∃ t, exec (.superframeStart env) s = .next t
            ∧ t.tru = { e.tru with queue := [] }
            ∧ t.shi.answers = e.shi.answers ++ [⟨r.sheet, if e.phc.phase ∈ phases then .notReady else .wrongPhase,
                [if r.clamped then 1 else 0], false⟩])

/-- R16: a STANDING order of a TIMING report: the checks, and the joining of the standing list with the first report
handed over as the answer, whose writing falls due (log entry 12). The superframe recorded is that of the carrying out,
which for the order of a sheet is the taking (log entry 36). The other report kinds are not spoken of. That up to the
SUPERFRAME_START of a start already reached the superframe in progress is the one before is log entry 68. -/
def Obligations.StandingJoinsTheList : Prop :=
  ∀ (sheet : SheetIx) (period : Word) (s : State),
    let params : List Word := [3, period]
    let e := s.settle (.standing sheet params)
    (period = 0 → exec (.standing sheet params) s = .next (e.answer sheet .badParameter []))
      ∧ (period ≠ 0 → 8 ≤ e.shi.standing.length → exec (.standing sheet params) s = .next (e.answer sheet .noRoom []))
      ∧ (period ≠ 0 → e.shi.standing.length < 8 → (∀ x ∈ e.shi.standing, x.sheet ≠ sheet) →
        ∃ x : StandingEntry, x.sheet = sheet ∧ x.kind = .timing ∧ x.period = min period.toNat 65535
          ∧ x.taken = e.tbs.superframe ∧ x.edition = 0
          ∧ (∀ h, e.heldEntry sheet = some h → x.base = h.base)
          ∧ exec (.standing sheet params) s
            = .next { e with
                shi := { e.shi with
                  standing := e.shi.standing ++ [x]
                  answers := e.shi.answers
                    ++ [⟨sheet, if 65535 < period.toNat then .adjusted else .done, e.timingWords, true⟩] }
                due := e.due ++ [.writeAnswer []] })

/-- R19, R73, section 12.4: READ of a tenant, of a channel, of a port, of a profile of carrier A and of its departures,
and of what does not exist. That the number of free cells stands behind the thirteen words of a channel is log entry 44,
and that a byte which section 12.4 does not name is 0 is log entry 55. -/
def Obligations.ReadAnswersTheEntry : Prop :=
  ∀ (sheet : SheetIx) (table index : Word) (s : State),
    let e := s.settle (.read sheet [table, index])
    let answered := fun (code : AnswerCode) (words : List Word) =>
      exec (.read sheet [table, index]) s = .next (e.answer sheet code words)
    (∀ k : Tenant, table = 1 → index.toNat = k.val → ∃ w0 w3 : Word,
        answered .done [w0, BitVec.ofNat 32 (e.contract k).committed, BitVec.ofNat 32 (e.contract k).peak, w3]
        ∧ w0.extractLsb' 0 8 = BitVec.ofNat 8 (e.contract k).state.code
        ∧ w0.extractLsb' 8 8 = BitVec.ofNat 8 (e.contract k).requirement.code
        ∧ w0.extractLsb' 24 8 = BitVec.ofNat 8 (e.contract k).weight
        ∧ w3.extractLsb' 0 16 = BitVec.ofNat 16 (e.contract k).debtOut
        ∧ w3.extractLsb' 16 16 = BitVec.ofNat 16 (e.contract k).debtIn)
      ∧ (∀ ch : Channel, table = 2 → index.toNat = ch.val → ∃ w0 w1 w2 : Word,
        let x := e.channel ch
        answered .done [w0, w1, w2, BitVec.ofNat 32 (e.streamBytes ch), x.enqueued, x.full, x.pool, x.sent, x.stale, x.purged,
          x.delivered, x.dropped, if ch = 63 then x.egress else 0, BitVec.ofNat 32 e.pqu.free]
        ∧ (∀ k, x.owner = some k → w0.extractLsb' 0 8 = BitVec.ofNat 8 k.val)
        ∧ (x.owner = none → w0.extractLsb' 0 8 = 0xFF) ∧ w0.extractLsb' 8 8 = BitVec.ofNat 8 x.priority.val
        ∧ w1.extractLsb' 0 16 = BitVec.ofNat 16 x.limit ∧ w1.extractLsb' 16 16 = BitVec.ofNat 16 x.maxAge
        ∧ w2.extractLsb' 0 16 = BitVec.ofNat 16 x.cells ∧ w2.extractLsb' 16 16 = BitVec.ofNat 16 x.queue.length)
      ∧ (∀ p : Profile, table = 4 → index.toNat = p.val → ∃ w0 w1 : Word,
        let x := e.lau.a.table[p]
        answered .done [w0, w1, match x.delay with | none => 0 | some d => BitVec.ofInt 32 d]
        ∧ w0.extractLsb' 0 16 = BitVec.ofNat 16 x.payload ∧ w0.extractLsb' 24 8 = (if x.delay.isSome then 1 else 0)
        ∧ (∀ f, x.verdict = some f → w0.extractLsb' 16 8 = BitVec.ofNat 8 f.val)
        ∧ (x.verdict = none → w0.extractLsb' 16 8 = 0xFF)
        ∧ w1.extractLsb' 0 16 = BitVec.ofNat 16 x.up ∧ w1.extractLsb' 16 16 = BitVec.ofNat 16 x.down)
      ∧ (∀ p : Port, table = 3 → index.toNat = p.val → ∃ w0 : Word,
        answered .done [w0, (e.port p).ingress, (e.port p).malformed, (e.port p).unassigned, (e.port p).egress,
          (e.port p).egressDiscard]
        ∧ w0.extractLsb' 8 8 = BitVec.ofNat 8 (e.port p).defaultChannel.val
        ∧ w0.getLsbD 16 = e.world.links[p])
      ∧ (table = 5 → index = 0 → answered .done
          (BitVec.ofNat 32 e.cfr.a.departures.length :: e.cfr.a.departures.flatMap departureWords))
      ∧ ((table = 0 ∨ 6 ≤ table.toNat ∨ (table = 1 ∧ 8 ≤ index.toNat) ∨ (table = 2 ∧ 64 ≤ index.toNat)
          ∨ (table = 3 ∧ 6 ≤ index.toNat) ∨ (table = 4 ∧ 16 ≤ index.toNat) ∨ (table = 5 ∧ 2 ≤ index.toNat)
          ∨ (e.shi.carrierBFitted = false ∧ ((table = 4 ∧ 8 ≤ index.toNat) ∨ (table = 5 ∧ index = 1)))) →
        answered .badParameter [])

/-! ### The superframe -/

/-- R7, R17, R26, R28, R29, R44, R109, R110, R117, R118, section 12.6: a superframe start takes the next number, makes the
next plan the current one, and opens the profile point and the plan point anew; the counter, the rate, and the servo's
state, history and integral stay, and outside WIND_DOWN so do the transmit states and, but for the stream of a RETIRING
tenant whose last frame leaves with this start (R89, R90), the Reassembler. In WIND_DOWN the site is back in SETUP after
it just when all eight tenants are then VACANT (R188); that the return comes behind the sending is log entry 59. Each
carrier that is not OFF is handed a superframe whose header bears that number, the profile it is sent at, the order to the
far terminal and the check; one in STARTING is of 128 IDLE slots at P0; one in OFF is handed none. A timing superframe is
a departure. With the Sheet Area free for it, a scan is requested, and each standing report that is due waits with its
words as the owners stand (log entry 51; those of VERDICTS are taken anew at the rewrite, R162). That a RUNNING carrier
with no committed profile is sent at P0 is log entry 73. A slot of a tenant's stream is as long as the payload, and begins
with the bytes of the frame in progress. -/
def Obligations.SuperframeStartCountsOn : Prop :=
  (∀ (env : List Outside) (s : State),
    let e := s.enter env (.superframeStart env)
    let n := e.tbs.superframe + 1
    ∃ t, exec (.superframeStart env) s = .next t
      ∧ t.tbs = { e.tbs with
          superframe := e.tbs.superframe + 1
          startAdvance := e.tbs.advance
          profileDone := false
          planDone := false
          stepAt := none
          starting := false }
      ∧ t.shc.currentPlan = e.shc.nextPlan ∧ t.shc.nextPlan = none ∧ t.shc.pointerOut = e.shc.pointerOut
      ∧ t.shc.pointerIn = e.shc.pointerIn ∧ t.shc.demand = e.shc.demand ∧ t.tsv.state = e.tsv.state
      ∧ t.tsv.history = e.tsv.history ∧ t.tsv.integral = e.tsv.integral ∧ t.pending = e.pending
      ∧ (e.phc.phase ≠ .windDown → t.ras = { e.ras with streams := t.ras.streams } ∧ t.phc = e.phc
        ∧ (∀ k : Tenant, (e.contract k).state ≠ .retiring → t.inStream k = e.inStream k)
        ∧ ∀ c : Carrier, (t.cfr.get c).tx = (e.cfr.get c).tx ∧ (t.cfr.get c).rx = (e.cfr.get c).rx)
      ∧ (e.phc.phase = .windDown →
        t.phc.phase = if ∀ k : Tenant, (t.contract k).state = .vacant then .setup else .windDown)
      ∧ (∀ c : Carrier, (e.cfr.get c).tx = .off →
        ∀ sent, .superframe c sent ∉ t.outputs.drop e.outputs.length)
      ∧ (∀ c : Carrier, (e.cfr.get c).tx ≠ .off → ∃ sent, .superframe c sent ∈ t.outputs.drop e.outputs.length
        ∧ sent.header.length = 76 ∧ readBig (sent.header.take 4) = n.toNat
        ∧ sent.header[4]? = some (BitVec.ofNat 8 sent.profile.val)
        ∧ sent.header[6]? = some (BitVec.ofNat 8 (e.cfr.get c).rx.code)
        ∧ sent.header.drop 74 = bigEndian 2 (checkOf (sent.header.take 74)).toNat
        ∧ ((e.cfr.get c).tx = .starting → sent.profile = 0 ∧ sent.header[5]? = some 0
          ∧ sent.slots = List.replicate 128 (outSlot .idle 0 (List.replicate (e.payload c 0) 0)))
        ∧ ((e.cfr.get c).tx = .running → (e.cfr.get c).heldOut ≠ none → (e.cfr.get c).heldIn ≠ none →
          sent.profile = (e.lau.get c).outbound.committed.getD 0
          ∧ sent.header[5]? = some (BitVec.ofNat 8 ((e.lau.get c).inbound.committed.getD 0).val))
        ∧ (e.phc.phase ≠ .windDown → n.toNat % 8 = (if c = .a then 0 else 4) →
          (t.cfr.get c).departures.getLast? = some ⟨n, ⟨e.tbs.sec, e.tbs.ns⟩, sent.profile⟩)
        ∧ (e.phc.phase ≠ .windDown → n.toNat % 8 ≠ (if c = .a then 0 else 4) →
          (t.cfr.get c).departures = (e.cfr.get c).departures))
      ∧ (t.shi.fault = false → t.shi.restarting = false → t.shi.base ≠ 0 → t.shi.scan ≠ none
        ∧ ∀ x ∈ t.shi.standing, (n - x.taken).toNat ≠ 0 → (n - x.taken).toNat % x.period = 0 →
          ⟨x.sheet, t.reportWords x.kind x.group⟩ ∈ t.shi.rewrites))
    ∧ ∀ (k : Tenant) (payload : Nat) (s : State),
      let r := s.fillTenantSlot k payload
      r.1.2.length = payload
        ∧ ((s.outStream k).inProgress = none → r.1.1 = 0)
        ∧ (∀ ch remaining, (s.outStream k).inProgress = some (ch, remaining) → r.1.1 = min remaining payload
          ∧ ∀ f rest, (s.channel ch).queue = f :: rest → remaining ≤ f.bytes.length →
            r.1.2.take (min remaining payload)
                = (f.bytes.drop (f.bytes.length - remaining)).take (min remaining payload)
              ∧ (payload < remaining → r.2 = { s with
                  slf := s.slf.set k.val { s.slf[k] with inProgress := some (ch, remaining - payload) } }))

/-- R37: DRAIN_END of carrier B: OFF at the start of the superframe after the sixteenth header-only one, nothing
before. -/
def Obligations.DrainEndsInOff : Prop :=
  ∀ (env : List Outside) (s : State),
    let e := s.enter env (.drainEnd env .b)
    let n := if e.tbs.starting then e.tbs.superframe + 1 else e.tbs.superframe
    (e.cfr.b.tx ≠ .draining ∨ 2 ^ 31 ≤ (n - (e.cfr.b.lastPlanned + 17)).toNat →
        exec (.drainEnd env .b) s = .next e)
      ∧ (e.cfr.b.tx = .draining → (n - (e.cfr.b.lastPlanned + 17)).toNat < 2 ^ 31 →
        ∃ t, exec (.drainEnd env .b) s = .next t ∧ t.cfr.b.tx = .off ∧ t.cfr.b.rx = .hunt ∧ t.cfr.b.farSync = none
          ∧ t.cfr.b.departures = [] ∧ t.ras.carriers.b.last = none ∧ t.ras.waiting = none ∧ t.cfr.a = e.cfr.a
          ∧ t.lau.b.outbound = Direction.reset ∧ t.lau.b.inbound = Direction.reset ∧ t.lau.b.table = e.lau.b.table
          ∧ t.hasEvent .carrier = true ∧ t.tbs = e.tbs ∧ t.tsv = e.tsv ∧ t.shc = e.shc)

/-- R28, R61, R62: the profile point. A carrier in OFF commits nothing; a pinned one commits what its pin gives for the
next superframe; an unpinned one commits P0 in SETUP and ALIGN, and elsewhere its held next profile when that is admitted.
Where a LOOP_BER_IN runs the point may end it as well (R176), and only that the point is then taken is said. -/
def Obligations.ProfilePointCommits : Prop :=
  ∀ (env : List Outside) (s : State),
    let e := s.enter env (.profilePoint env)
    ∃ t, exec (.profilePoint env) s = .next t ∧ t.tbs = { e.tbs with profileDone := true }
      ∧ ((∀ r, e.tru.running = some r → r.kind ≠ .loopBerIn) →
        (∀ c : Carrier, (e.cfr.get c).tx = .off → t.lau.get c = e.lau.get c)
        ∧ (∀ (c : Carrier) (pin : Pin), (e.cfr.get c).tx ≠ .off → (e.lau.get c).pin = some pin →
          (t.lau.get c).inbound.committed = some pin.inbound
            ∧ (t.lau.get c).outbound.committed
              = some (if pin.alternation = true ∧ (e.tbs.superframe + 1).toNat % 2 = 1 then 0 else pin.outbound))
        ∧ (∀ c : Carrier, (e.cfr.get c).tx ≠ .off → (e.lau.get c).pin = none →
          (e.phc.phase = .setup ∨ e.phc.phase = .align →
            (t.lau.get c).outbound.committed = some 0 ∧ (t.lau.get c).inbound.committed = some 0
              ∧ (t.lau.get c).outbound.next = 0 ∧ (t.lau.get c).inbound.next = 0)
          ∧ (e.phc.phase ≠ .setup → e.phc.phase ≠ .align →
            (e.admitted c (e.lau.get c).outbound.next = true →
              (t.lau.get c).outbound.committed = some (e.lau.get c).outbound.next)
            ∧ (e.admitted c (e.lau.get c).inbound.next = true →
              (t.lau.get c).inbound.committed = some (e.lau.get c).inbound.next)))
        ∧ (∀ c : Carrier, (t.lau.get c).table = (e.lau.get c).table ∧ (t.lau.get c).pin = (e.lau.get c).pin
          ∧ (t.lau.get c).outbound.window = (e.lau.get c).outbound.window
          ∧ (t.lau.get c).inbound.window = (e.lau.get c).inbound.window)
        ∧ t.cfr = e.cfr ∧ t.pqu = e.pqu ∧ t.shc = e.shc ∧ t.ras = e.ras ∧ t.tsv = e.tsv ∧ t.tru = e.tru ∧ t.phc = e.phc)

/-- R28, R94, R97 to R100, R102 to R111: the plan point. The two plans are those of the computation from the state at the
point, with the grants of stages 2 and 3 over the direction's participants and its available bytes. A participant's last
grant and last demand are those of the plan, any other tenant's are 0. A participant's debt follows its demand, its grant
and the bytes of the slots it took; any other tenant's stays, and so do all of them in a plan without available bytes. That the
profile of a carrier with none committed is P0 is log entry 73. -/
def Obligations.PlanPointMakesThePlans : Prop :=
  ∀ (env : List Outside) (s : State),
    let e := s.enter env (.planPoint env)
    ∃ (t : State) (out : OutPlan) (inb : InPlan), exec (.planPoint env) s = .next t
      ∧ t.shc.nextPlan = some out ∧ t.shc.history.getLast? = some inb ∧ inb.edition = e.tbs.superframe
      ∧ out.runs = (e.planDirection .outbound).runs ∧ inb.runs = (e.planDirection .inbound).runs
      ∧ out.shares = (((e.planDirection .outbound).assigned.filter fun x => !x.slots.isEmpty).map fun x =>
          ⟨x.tenant, x.grant, x.target⟩)
      ∧ (∀ (way : Way) (k : Tenant),
        let plan := e.planDirection way
        let last := t.shc.last[k]
        let kept := (e.contract k).debt way
        let debt := (t.contract k).debt way
        let given := match way with | .outbound => (last.grantOut, last.demandOut) | .inbound => (last.grantIn, last.demandIn)
        let bytes := fun (slots : List Carrier) => (slots.map fun c => e.payload c (e.planProfile way c)).sum
        plan.granted = grants plan.available (e.participants way)
          ∧ ((∀ x ∈ plan.granted, x.tenant ≠ k) → given = (0, 0) ∧ debt = kept)
          ∧ ∀ x ∈ plan.granted, x.tenant = k → given = (x.grant, x.demand) ∧ x.debt = kept
            ∧ (plan.available = 0 → debt = kept)
            ∧ (plan.available ≠ 0 → ∃ y ∈ plan.assigned, y.tenant = k
              ∧ (x.demand = 0 → debt = 0 ∧ y.slots = [])
              ∧ (x.demand ≠ 0 → x.grant ≤ kept → debt = kept - x.grant ∧ y.slots = [])
              ∧ (x.demand ≠ 0 → kept < x.grant → y.target = x.grant - kept ∧ debt = bytes y.slots - y.target)))
      ∧ t.shc.history.length = min 4 (e.shc.history.length + 1)
      ∧ t.shc.currentPlan = e.shc.currentPlan
      ∧ t.shc.pointerOut.val = (e.shc.pointerOut.val + 1) % 8 ∧ t.shc.pointerIn.val = (e.shc.pointerIn.val + 1) % 8
      ∧ (∀ c : Carrier, ((e.cfr.get c).tx = .off ∨ e.fitted c = false) →
        out.runs.get c = none ∧ inb.runs.get c = none)
      ∧ (∀ c : Carrier, e.fitted c = true → ((e.cfr.get c).tx = .starting ∨ (e.cfr.get c).tx = .draining) →
        out.runs.get c = some [⟨.idle, 128⟩] ∧ inb.runs.get c = some [⟨.idle, 128⟩])
      ∧ (∀ c : Carrier, (e.cfr.get c).tx ≠ .off →
        (t.cfr.get c).heldOut = out.runs.get c ∧ (t.cfr.get c).heldIn = inb.runs.get c
          ∧ (t.cfr.get c).heldEdition = e.tbs.superframe)
      ∧ (∀ c : Carrier, (t.cfr.get c).tx = (e.cfr.get c).tx ∧ (t.cfr.get c).rx = (e.cfr.get c).rx)
      ∧ (∀ k : Tenant, (e.contract k).state = .vacant ∨ (e.contract k).state = .pending →
        t.contract k = e.contract k)
      ∧ t.tbs = { e.tbs with planDone := true } ∧ t.lau = e.lau ∧ t.pqu = e.pqu ∧ t.ras = e.ras ∧ t.tsv = e.tsv
      ∧ t.tru = e.tru ∧ t.phc = e.phc

/-- R104: whatever the participants, the sum of the grants does not exceed the available bytes, and no grant exceeds the
participant's demand or, where its committed bytes do not exceed its peak, its peak. -/
def Obligations.GrantsDoNotExceedTheAvailableBytes : Prop :=
  ∀ (a : Nat) (ps : List Participant), grantSum (grants a ps) ≤ a
    ∧ (grants a ps).map Participant.tenant = ps.map Participant.tenant
    ∧ ∀ p ∈ grants a ps, p.grant ≤ p.demand ∧ (p.committed ≤ p.peak → p.grant ≤ p.peak)

/-- R29, R108: where no test holds more than 128 slots, the run lists of a plan count 128 slots, none of its runs is empty
and neighbours differ in owner. -/
def Obligations.RunListsCount128Slots : Prop :=
  ∀ (s : State) (w : Way) (c : Carrier) (runs : List Run),
    (∀ d : Carrier, (s.tru.holdings.get d).requirement.count ≤ 128) →
    (s.planDirection w).runs.get c = some runs →
      runSlots runs = 128 ∧ (∀ r ∈ runs, 0 < r.count)
        ∧ ∀ (i : Nat) (x y : Run), runs[i]? = some x → runs[i + 1]? = some y → x.owner ≠ y.owner

/-! ### Deliveries and misses -/

/-- R33, R34, R39, R54, R56 to R61: a delivery to a framer in OFF is ignored. In HUNT or VERIFY a GOOD header begins or
extends a run, a BAD one is counted and leads to HUNT; the quality report joins the inbound window, makes one inbound
decision, and the miss timer restarts. A decision: none under a pin; P0 in SETUP and ALIGN; on uncorrected FEC the next
lower admitted profile; from a profile not admitted, or below its down threshold, the highest one below that is admitted
and whose down threshold is met; else one step toward the lowest admitted profile above, taken at the 64th in a row. -/
def Obligations.DeliveryBeforeSync : Prop :=
  (∀ (env : List Outside) (c : Carrier) (d : Delivery) (s : State),
    let e := s.enter env (.delivery env c d)
    let f := e.cfr.get c
    let far : Word := BitVec.ofNat 32 (readBig (d.header.toList.take 4))
    (f.tx = .off → exec (.delivery env c d) s = .next e)
      ∧ (f.tx ≠ .off → (f.rx = .hunt ∨ (f.rx = .verify ∧ (d.headerGood = false ∨ far ≠ f.expected ∨ f.run < 2))) →
        ∃ t, exec (.delivery env c d) s = .next t
          ∧ (t.cfr.get c).missAt = some (e.tbs.advance + nsUnits 1250000)
          ∧ (t.lau.get c).lastLocal = some ⟨d.snr, d.level⟩
          ∧ (t.lau.get c).inbound.window.getLast? = some d.snr
          ∧ (t.lau.get c).inbound = e.decided c
            { (e.lau.get c).inbound with window := windowAdd (e.lau.get c).inbound.window d.snr } (decide (0 < d.fecBlocks))
          ∧ (t.lau.get c).outbound = (e.lau.get c).outbound
          ∧ (t.cfr.get c).headerErrors = (if d.headerGood then f.headerErrors else f.headerErrors + 1)
          ∧ (f.rx = .hunt ∨ d.headerGood = true → (t.cfr.get c).rx = if d.headerGood then .verify else f.rx)
          ∧ (f.rx = .verify → d.headerGood = false → (t.cfr.get c).rx = .hunt)
          ∧ (d.headerGood = true → (t.cfr.get c).expected = far + 1
            ∧ (t.cfr.get c).run = if f.rx = .verify ∧ far = f.expected then f.run + 1 else 1)
          ∧ (t.cfr.get c).tx = f.tx ∧ t.ras = e.ras ∧ t.shc = e.shc ∧ t.tbs = e.tbs ∧ t.tsv = e.tsv ∧ t.tru = e.tru
          ∧ t.pqu = e.pqu))
    ∧ ∀ (s : State) (c : Carrier) (d : Direction) (fec : Bool),
      let x := s.decided c d fec
      let cur := d.committed.getD 0
      let figure := d.window.sum / d.window.length
      let entry := fun (q : Profile) => (s.lau.get c).table[q]
      let meets := fun (q : Profile) => s.admitted c q = true ∧ (entry q).down ≤ figure
      let low := s.phc.phase = .setup ∨ s.phc.phase = .align
      x.window = d.window ∧ x.committed = d.committed
        ∧ ((s.lau.get c).pin ≠ none → x = { d with stepUp := 0 })
        ∧ ((s.lau.get c).pin = none →
          (low → x.stepUp = 0 ∧ x.next = if cur = 0 then d.next else 0)
          ∧ (¬ low → fec = true → x.stepUp = 0 ∧ (cur = 0 → x.next = d.next)
            ∧ ∀ q : Profile, q < cur → s.admitted c q = true → (∀ r : Profile, q < r → r < cur → s.admitted c r = false) →
              x.next = if q < d.next then q else d.next)
          ∧ (¬ low → fec = false → cur ≠ 0 → (s.admitted c cur = false ∨ figure < (entry cur).down) → x.stepUp = 0
            ∧ ∀ q : Profile, q < cur → (q = 0 ∨ meets q) → (∀ r : Profile, q < r → r < cur → ¬ meets r) →
              x.next = if q < d.next then q else d.next)
          ∧ (¬ low → fec = false → (cur = 0 ∨ meets cur) →
            ((∀ u : Profile, cur < u → s.admitted c u = false) → x = { d with stepUp := 0 })
            ∧ ∀ u : Profile, cur < u → s.admitted c u = true →
              (∀ r : Profile, cur < r → r < u → s.admitted c r = false) →
                (figure < (entry u).up → x = { d with stepUp := 0 })
                ∧ ((entry u).up ≤ figure → d.stepUp < 63 → x = { d with stepUp := d.stepUp + 1 })
                ∧ ((entry u).up ≤ figure → 63 ≤ d.stepUp →
                  x = { d with stepUp := 0, next := if d.next = cur then u else d.next })))

/-- R36, R39 to R42, R44, R45, R47, R53: GOOD headers of carrier A that bring SYNC, and deliveries in SYNC and FLYWHEEL.
The third GOOD header in sequence brings SYNC, and a STARTING carrier to RUNNING. In SYNC or FLYWHEEL a GOOD header of the
expected number keeps or restores SYNC and is accepted: its bad slots are counted, its demands are taken, a far state of
SYNC or FLYWHEEL is recorded, its report makes an outbound decision, and a timing answer removes the departure it names. A
GOOD header of another number is a slip to HUNT, and a BAD one is a miss; neither hands anything on. That up to the
SUPERFRAME_START of a start already reached the superframe in progress is the one before is log entry 68. -/
def Obligations.ThirdHeaderBringsSync : Prop :=
  ∀ (env : List Outside) (d : Delivery) (s : State),
    let e := s.enter env (.delivery env .a d)
    let header := d.header.toList
    let field := fun (start count : Nat) => readBig ((header.drop start).take count)
    let far : Word := BitVec.ofNat 32 (field 0 4)
    let f := e.cfr.a
    let farKnown := field 5 1 = 2 ∨ field 5 1 = 3
    let answers := field 30 1 ≠ 0 ∧ field 42 4 ≤ 999999999 ∧ field 52 4 ≤ 999999999
    (f.tx = .starting → f.rx = .verify → f.run = 2 → d.headerGood = true → far = f.expected →
      ∃ t, exec (.delivery env .a d) s = .next t ∧ t.cfr.a.rx = .sync ∧ t.cfr.a.tx = .running
        ∧ t.cfr.a.expected = far + 1 ∧ t.hasEvent .carrier = true
        ∧ (∀ k : Tenant, t.shc.demand[k] = BitVec.ofNat 16 (field (14 + 2 * k.val) 2))
        ∧ (farKnown → t.cfr.a.farSync = some e.tbs.superframe)
        ∧ t.cfr.b = e.cfr.b ∧ t.tbs = e.tbs ∧ t.phc.phase = e.phc.phase)
      ∧ (f.tx ≠ .off → (f.rx = .sync ∨ f.rx = .flywheel) → ∃ t, exec (.delivery env .a d) s = .next t
        ∧ t.cfr.a.missAt = some (e.tbs.advance + nsUnits 1250000)
        ∧ (t.lau.a.lastLocal = some ⟨d.snr, d.level⟩) ∧ t.cfr.b = e.cfr.b ∧ t.tbs = e.tbs ∧ t.cfr.a.tx = f.tx
        ∧ (d.headerGood = true → far = f.expected →
          t.cfr.a.rx = .sync ∧ t.cfr.a.expected = far + 1 ∧ t.cfr.a.misses = 0 ∧ t.cfr.a.headerErrors = f.headerErrors
          ∧ t.cfr.a.slotErrors = f.slotErrors + BitVec.ofNat 32 (d.slots.toList.countP fun x => !slotGood x)
          ∧ (∀ k : Tenant, t.shc.demand[k] = BitVec.ofNat 16 (field (14 + 2 * k.val) 2))
          ∧ t.cfr.a.farSync = (if farKnown then some e.tbs.superframe else f.farSync)
          ∧ t.cfr.a.departures = (if answers then f.departures.filter fun x => x.superframe.toNat != field 32 4
              else f.departures)
          ∧ (e.tru.running = none → t.lau.a.outbound = e.decided .a { e.lau.a.outbound with
              window := windowAdd e.lau.a.outbound.window (min (field 8 2) 600) } (decide (field 6 1 ≠ 0)))
          ∧ (far ∉ e.ras.judgedLost → t.ras.carriers.a.last = some far))
        ∧ (d.headerGood = true → far ≠ f.expected →
          t.cfr.a.rx = .hunt ∧ t.cfr.a.run = 0 ∧ t.cfr.a.headerErrors = f.headerErrors
          ∧ t.hasEvent .carrier = true ∧ t.cfr.a.slotErrors = f.slotErrors ∧ t.shc.demand = e.shc.demand
          ∧ t.cfr.a.farSync = f.farSync ∧ t.cfr.a.departures = f.departures
          ∧ t.lau.a.outbound.window = e.lau.a.outbound.window ∧ t.ras.carriers.a = e.ras.carriers.a)
        ∧ (d.headerGood = false →
          t.cfr.a.headerErrors = f.headerErrors + 1 ∧ t.cfr.a.expected = f.expected + 1
          ∧ (f.rx = .sync → t.cfr.a.rx = .flywheel ∧ t.cfr.a.misses = 1)
          ∧ (f.rx = .flywheel → t.cfr.a.rx = if f.misses < 3 then .flywheel else .hunt)
          ∧ t.cfr.a.slotErrors = f.slotErrors ∧ t.shc.demand = e.shc.demand ∧ t.cfr.a.departures = f.departures
          ∧ t.lau.a.outbound.window = e.lau.a.outbound.window ∧ t.ras.carriers.a = e.ras.carriers.a))

/-- R34, R39, R40, R47: a miss of carrier B: none before its timer has expired, and then by the receive state. That the
command then does nothing is log entry 12. -/
def Obligations.MissByReceiveState : Prop :=
  ∀ (env : List Outside) (s : State),
    let e := s.enter env (.miss env .b)
    let later := e.cfr.b.missAt.map fun x => x + nsUnits 1000000
    let expired := ∃ x, e.cfr.b.missAt = some x ∧ x ≤ e.tbs.advance
    (¬ expired → exec (.miss env .b) s = .next e)
      ∧ (expired → e.cfr.b.tx = .off ∨ e.cfr.b.rx = .hunt →
        exec (.miss env .b) s = .next { e with cfr := { e.cfr with b := { e.cfr.b with missAt := later } } })
      ∧ (expired → e.cfr.b.tx ≠ .off → e.cfr.b.rx ≠ .hunt → ∃ t, exec (.miss env .b) s = .next t
        ∧ t.cfr.b.headerErrors = e.cfr.b.headerErrors + 1 ∧ t.cfr.b.missAt = later
        ∧ (e.cfr.b.rx = .verify → t.cfr.b.rx = .hunt)
        ∧ (e.cfr.b.rx = .sync → t.cfr.b.rx = .flywheel ∧ t.cfr.b.misses = 1
          ∧ t.cfr.b.expected = e.cfr.b.expected + 1)
        ∧ (e.cfr.b.rx = .flywheel → t.cfr.b.expected = e.cfr.b.expected + 1
          ∧ t.cfr.b.rx = if e.cfr.b.misses < 3 then .flywheel else .hunt)
        ∧ t.cfr.a = e.cfr.a ∧ t.lau.b.inbound.window = e.lau.b.inbound.window ∧ t.tbs = e.tbs ∧ t.tsv = e.tsv
        ∧ t.shc.demand = e.shc.demand)

/-- R121, R123 to R127: carrier B's wait, and how the Reassembler reads. With no superframe of carrier B waiting, or one
that has waited less than its millisecond, the expiry brings nothing; otherwise none waits after it, and carrier A's
superframe of its number is judged lost. The list of the judged numbers is the model's own (log entry 25). A superframe
without a plan in the history is a plan-miss and one at another profile a profile-miss. A bad slot sends its stream to
HUNTING; one that a frame in progress fills adds its whole payload to the frame and takes the cells for it; a HUNTING
stream passes over one that is all carry-over. A complete frame is delivered to its channel's port, or dropped where the
channel has no port or is another tenant's. -/
def Obligations.CarrierBWaitEnds : Prop :=
  (∀ (env : List Outside) (s : State),
    let e := s.enter env (.carrierBWaitExpiry env)
    (e.ras.waiting = none → exec (.carrierBWaitExpiry env) s = .next e)
      ∧ (∀ m since, e.ras.waiting = some (m, since) →
        (e.tbs.advance < since + nsUnits 1000000 → exec (.carrierBWaitExpiry env) s = .next e)
        ∧ (since + nsUnits 1000000 ≤ e.tbs.advance → ∃ t, exec (.carrierBWaitExpiry env) s = .next t
          ∧ t.ras.waiting = none ∧ m.far ∈ t.ras.judgedLost ∧ t.ras.carriers.b.last = some m.far
          ∧ t.ras.carriers.a = e.ras.carriers.a ∧ t.cfr = e.cfr ∧ t.tbs = e.tbs ∧ t.tsv = e.tsv
          ∧ t.shc.demand = e.shc.demand ∧ t.phc.phase = e.phc.phase)))
    ∧ (∀ (c : Carrier) (m : InSuperframe) (s : State),
      let t := s.processSuperframe c m
      let r := s.ras.carriers.get c
      ((∀ x ∈ s.shc.history, x.edition ≠ m.edition) →
          t.ras.carriers.get c = { r with last := some m.far, planMiss := r.planMiss + 1 }
          ∧ (∀ k : Tenant, t.inStream k = .hunting) ∧ t.tru = s.tru)
        ∧ (∀ x before after, s.shc.history = before ++ x :: after → (∀ y ∈ before, y.edition ≠ m.edition) →
          x.edition = m.edition → x.runs.get c ≠ none → (x.profile.get c).val ≠ m.profile.toNat →
          t.ras.carriers.get c = { r with last := some m.far, profileMiss := r.profileMiss + 1 } ∧ t.tru = s.tru
          ∧ ∀ (k : Tenant) (n : Nat), (∃ runs, x.runs.get c = some runs ∧ ⟨.tenant k, n⟩ ∈ runs) →
            t.inStream k = .hunting))
    ∧ (∀ (k : Tenant) (slot : InSlot) (s : State),
      ((slot.good = false ∨ slot.owner.toNat ≠ k.val) →
          (s.readSlot k slot).inStream k = .hunting
          ∧ (s.readSlot k slot).pqu.free = s.pqu.free + (s.inStream k).cells)
        ∧ (slot.good = true → slot.owner.toNat = k.val →
          (s.inStream k = .hunting → slot.carry = slot.payload.length → s.readSlot k slot = s)
          ∧ ∀ f : PartialFrame, s.inStream k = .collecting (some f) → f.bytes.length + slot.payload.length < f.length →
            slot.carry = slot.payload.length →
            cellsOf (f.bytes.length + slot.payload.length) ≤ s.pqu.free + cellsOf f.bytes.length →
              (s.readSlot k slot).inStream k = .collecting (some { f with bytes := f.bytes ++ slot.payload })
              ∧ (s.readSlot k slot).pqu.free + cellsOf (f.bytes.length + slot.payload.length)
                = s.pqu.free + cellsOf f.bytes.length))
    ∧ ∀ (k : Tenant) (f : PartialFrame) (s : State),
      let t := s.deliverFrame k f
      let x := s.channel f.channel
      t.inStream k = .collecting none ∧ t.pqu.free = s.pqu.free + (f.bytes.length + 63) / 64
        ∧ ((x.egressPort = none ∨ x.owner ≠ some k) →
          t.channel f.channel = { x with dropped := x.dropped + 1 } ∧ t.outputs = s.outputs)
        ∧ ∀ p : Port, x.egressPort = some p → x.owner = some k →
          t.channel f.channel = { x with delivered := x.delivered + 1 }
          ∧ (s.world.links[p] = true → t.outputs = s.outputs ++ [.portFrame p f.bytes]
            ∧ (t.port p).egress = (s.port p).egress + 1)
          ∧ (s.world.links[p] = false → t.outputs = s.outputs
            ∧ (t.port p).egressDiscard = (s.port p).egressDiscard + 1)

/-! ### Arrivals, aging, notices -/

/-- R73 to R75, R79: an arrival that passes the seven checks takes its cells and joins its channel's queue; one that
checks (1), (2), (5) or (7) drop is counted there and changes nothing else. A port without a tenant drops a frame as
unassigned at a moment at which no purge was taken (R88, log entry 61). That up to the SUPERFRAME_START of a start already
reached the superframe in progress is the one before is log entry 68. -/
def Obligations.ArrivalsAreCheckedAndQueued : Prop :=
  ∀ (env : List Outside) (p : Port) (bytes : List Byte) (good : Bool) (s : State),
    let e := s.enter env (.arrival env p bytes good)
    let cells := (bytes.length + 63) / 64
    let taken := e.onPort p fun x => { x with ingress := x.ingress + 1 }
    ((good = false ∨ bytes.length < 64 ∨ 1536 < bytes.length) →
        exec (.arrival env p bytes good) s = .next (taken.onPort p fun x => { x with malformed := x.malformed + 1 }))
      ∧ (good = true → 64 ≤ bytes.length → bytes.length ≤ 1536 →
        ((e.port p).tenant = none → (∀ x ∈ e.pqu.purges, x.moment ≠ e.tbs.advance) →
          exec (.arrival env p bytes good) s = .next (taken.onPort p fun x => { x with unassigned := x.unassigned + 1 }))
        ∧ (∀ (k : Tenant) (ch : Channel), (e.port p).tenant = some k →
          (bytes.head?.map fun b => b.toNat) = some (128 + ch.val) → ch ≠ 63 → (e.channel ch).owner = some k →
          (((e.contract k).state = .pending ∨ (e.contract k).state = .retiring ∨ (e.contract k).state = .vacant) →
            exec (.arrival env p bytes good) s
              = .next { taken with pqu := { taken.pqu with
                  notAdmitted := e.pqu.notAdmitted.set k.val (e.pqu.notAdmitted[k] + 1) } })
          ∧ (((e.contract k).state = .admitted ∨ (e.contract k).state = .held) →
            (e.channel ch).cells + cells ≤ (e.channel ch).limit →
            (e.pqu.free < 256 + cells →
              exec (.arrival env p bytes good) s = .next (taken.onChannel ch fun x => { x with pool := x.pool + 1 }))
            ∧ (256 + cells ≤ e.pqu.free → ∃ t, exec (.arrival env p bytes good) s = .next t
              ∧ t.pqu.free = e.pqu.free - cells
              ∧ (t.channel ch).queue = (e.channel ch).queue ++ [⟨bytes, p, e.tbs.superframe⟩]
              ∧ (t.channel ch).enqueued = (e.channel ch).enqueued + 1
              ∧ (∀ x : Channel, x ≠ ch → t.channel x = e.channel x)
              ∧ (t.port p).ingress = (e.port p).ingress + 1
              ∧ (512 ≤ e.pqu.free → e.pqu.free - cells < 512 → t.hasEvent .pool = true)
              ∧ (e.pqu.free < 512 ∨ 512 ≤ e.pqu.free - cells → t.shi = e.shi)
              ∧ t.cfr = e.cfr ∧ t.lau = e.lau ∧ t.shc = e.shc ∧ t.slf = e.slf ∧ t.ras = e.ras ∧ t.tbs = e.tbs
              ∧ t.tsv = e.tsv ∧ t.tru = e.tru ∧ t.phc = e.phc))))

/-- R77, R89, R116, R188: after the aging no head frame of a channel 0 to 62 is older than its channel's max age unless it
is in progress; every frame that left counts as stale, and channels without a max age keep their queues. In WIND_DOWN a
RETIRING tenant may become VACANT by it, and the site is back in SETUP after it just when all eight are (R188). -/
def Obligations.AgingLeavesNoStaleHead : Prop :=
  ∀ (env : List Outside) (s : State),
    let e := s.enter env (.aging env)
    let n := if e.tbs.starting then e.tbs.superframe + 1 else e.tbs.superframe
    ((∀ k : Tenant, (e.contract k).state ≠ .retiring) → e.phc.phase ≠ .windDown →
      ∃ t, exec (.aging env) s = .next t
        ∧ (∀ ch : Channel, ch ≠ 63 → (t.channel ch).maxAge ≠ 0 → t.inProgressOn ch = none →
          ∀ f rest, (t.channel ch).queue = f :: rest → (n - f.arrival).toNat ≤ (t.channel ch).maxAge)
        ∧ (∀ ch : Channel, (t.channel ch).queue.IsSuffix (e.channel ch).queue
          ∧ (t.channel ch).stale = (e.channel ch).stale
            + BitVec.ofNat 32 ((e.channel ch).queue.length - (t.channel ch).queue.length))
        ∧ (∀ ch : Channel, (e.channel ch).maxAge = 0 → t.channel ch = e.channel ch)
        ∧ t.shc = e.shc ∧ t.slf = e.slf ∧ t.cfr = e.cfr ∧ t.ras = e.ras ∧ t.tbs = e.tbs ∧ t.phc = e.phc
        ∧ t.shi = e.shi)
      ∧ (e.phc.phase = .windDown → ∃ t, exec (.aging env) s = .next t ∧ t.tbs = e.tbs
        ∧ (∀ k : Tenant, (e.contract k).state ≠ .retiring → t.contract k = e.contract k)
        ∧ (∀ k : Tenant, (t.contract k).state = (e.contract k).state ∨ t.contract k = Contract.reset)
        ∧ t.phc.phase = if ∀ k : Tenant, (t.contract k).state = .vacant then .setup else .windDown)

/-- R67, R139: at the half-second mark each port that has a tenant is handed one notice of 64 bytes, the last four the
frame check that the port forms (a free value, log entry 21), with the next second, the class, the phase and the tenant's
state: it leaves and is counted where the link is UP, and is discarded and counted where it is DOWN. -/
def Obligations.HalfSecondMarkSendsNotices : Prop :=
  ∀ (env : List Outside) (s : State),
    let e := s.enter env (.halfSecondMark env)
    ∃ (t : State) (notices : List (Port × List Byte)), exec (.halfSecondMark env) s = .next t
      ∧ t.outputs = e.outputs ++ notices.map (fun x => Output.portFrame x.1 x.2)
      ∧ notices.map (·.1) = allPorts.filter (fun p => (e.port p).tenant.isSome && e.world.links[p])
      ∧ (∀ x ∈ notices, x.2.length = 64 ∧ x.2.head? = some 0xBF
        ∧ x.2.drop 60 = bigEndian 4 (Config.frameCheck (x.2.take 60)).toNat ∧ (x.2.take 60).drop 10 = List.replicate 50 0
        ∧ readBig ((x.2.drop 1).take 6) = (e.tbs.sec + 1).toNat
        ∧ x.2[7]? = some (BitVec.ofNat 8 e.tsv.timingClass.code) ∧ x.2[8]? = some (BitVec.ofNat 8 e.phc.phase.code)
        ∧ ∀ k : Tenant, (e.port x.1).tenant = some k → x.2[9]? = some (BitVec.ofNat 8 (e.contract k).state.code))
      ∧ (∀ p : Port, (t.port p).egress
        = (e.port p).egress + (if (e.port p).tenant.isSome ∧ e.world.links[p] = true then 1 else 0))
      ∧ (∀ p : Port, (t.port p).egressDiscard
        = (e.port p).egressDiscard + (if (e.port p).tenant.isSome ∧ e.world.links[p] = false then 1 else 0))
      ∧ (∀ ch : Channel, ch ≠ 63 → t.channel ch = e.channel ch)
      ∧ (t.channel 63).egress = (e.channel 63).egress + BitVec.ofNat 32 notices.length ∧ t.pqu.free = e.pqu.free
      ∧ t.shi = e.shi ∧ t.cfr = e.cfr ∧ t.shc = e.shc ∧ t.ras = e.ras ∧ t.tbs = e.tbs ∧ t.tsv = e.tsv ∧ t.phc = e.phc

/-! ### The clock and the servo -/

/-- R143, R144, R147, R148, R151, R152, R154 to R156: a mark made less than 500 ms of counter advance after the last one
taken is ignored. The eighth second in a row with a GNSS sample qualifies GNSS; from FREERUN it is selected and the state
becomes ACQUIRING. With GNSS selected and sampled in ACQUIRING or LOCKED, the sample moves the lock or the out count and
the state by them, and where it makes no step the rate update follows: rate, integral term and holdover history. -/
def Obligations.WholeSecondMarks : Prop :=
  ∀ (env : List Outside) (s : State),
    let e := s.enter env (.wholeSecondMark env)
    (∀ m, e.tsv.lastMark = some m → e.tbs.advance < m + nsUnits 500000000 →
        exec (.wholeSecondMark env) s = .next e)
      ∧ (∀ c : Stamp, (∀ m, e.tsv.lastMark = some m → m + nsUnits 500000000 ≤ e.tbs.advance) → e.tsv.state = .freerun →
        e.tsv.selected = none → e.tsv.gnss = ⟨some 0, false, 7, 0⟩ → e.tsv.linkA.qualified = false →
        e.tsv.linkB.qualified = false → e.tsv.gnssCandidate = some c →
        e.tsv.linkCandidates = { a := none, b := none } → e.tru.running = none →
          ∃ t, exec (.wholeSecondMark env) s = .next t ∧ t.tsv.selected = some .gnss ∧ t.tsv.gnss.qualified = true
            ∧ t.tsv.state = .acquiring ∧ t.tsv.gnssCandidate = none ∧ t.hasEvent .timing = true
            ∧ t.tsv.lastMark = some e.tbs.advance
            ∧ t.tsv.lastTheta = ((c.ns : Int) - e.tsv.params.cableDelay + 500000000) % 1000000000 - 500000000
            ∧ t.phc.phase = e.phc.phase ∧ t.pqu = e.pqu)
      ∧ ∀ c : Stamp, (∀ m, e.tsv.lastMark = some m → m + nsUnits 500000000 ≤ e.tbs.advance) →
        (e.tsv.state = .acquiring ∨ e.tsv.state = .locked) → e.tsv.selected = some .gnss →
        e.tsv.gnss = ⟨some 0, true, 8, 0⟩ → e.tsv.gnssCandidate = some c →
        e.tsv.linkCandidates = { a := none, b := none } → e.tru.running = none →
          let theta : Int := ((c.ns : Int) - e.tsv.params.cableDelay + 500000000) % 1000000000 - 500000000
          let p := e.tsv.params
          let lock := if theta.natAbs ≤ p.lockWindow then min (e.tsv.lockCount + 1) 16 else 0
          let out := if p.stepThreshold < theta.natAbs then min (e.tsv.outCount + 1) 3 else 0
          let state : TimingState :=
            if e.tsv.state = .acquiring then (if lock = 16 then .locked else .acquiring)
            else if out = 3 then .acquiring else .locked
          let nearest := fun (x : Int) (k : Nat) => x.sign * (((2 * x.natAbs + 2 ^ k) / (2 * 2 ^ k) : Nat) : Int)
          let x : Int := max (-(p.stepThreshold : Int)) (min p.stepThreshold theta)
          let trial := e.tsv.integral + nearest (x * 1000) p.ki
          let rate := -(nearest (x * 1000) p.kp + trial)
          let steps := p.stepThreshold < theta.natAbs ∧ state = .acquiring ∧ e.phc.phase ≠ .service
            ∧ e.phc.phase ≠ .windDown
          ∃ t, exec (.wholeSecondMark env) s = .next t ∧ t.tsv.state = state ∧ t.tsv.selected = some .gnss
            ∧ t.tsv.lastTheta = theta ∧ t.tsv.params = p
            ∧ (e.tsv.state = .acquiring → t.tsv.lockCount = lock ∧ (state = .locked → t.tsv.outCount = 0))
            ∧ (e.tsv.state = .locked → t.tsv.outCount = (if out = 3 then 0 else out)
              ∧ (state = .acquiring → t.tsv.lockCount = 0))
            ∧ (¬ steps →
              t.tbs.rate = max (-25000000) (min 25000000 rate)
              ∧ t.tsv.integral = (if -25000000 ≤ rate ∧ rate ≤ 25000000 then trial else e.tsv.integral)
              ∧ (state = .locked → t.tsv.history
                = e.tsv.history.drop (e.tsv.history.length - 63) ++ [max (-25000000) (min 25000000 rate)])
              ∧ (state = .acquiring → t.tsv.history = e.tsv.history) ∧ t.tbs = { e.tbs with rate := t.tbs.rate })
            ∧ (steps → t.tsv.integral = e.tsv.integral ∧ t.tsv.history = e.tsv.history ∧ t.tbs.rate = e.tbs.rate)

/-- R129: over any number of ticks at one rate the counter gains exactly their gain, and the advance with it. That a step
on an empty queue with nothing due is one tick of the counter is the model's choice (log entries 2 and 11). -/
def Obligations.TicksGainTheirTime : Prop :=
  (∀ (n : Nat) (s : State), s.counterOk →
    let t := s.tbs.ticks n
    let units := fun (x : Tbs) => x.residue + 10 ^ 12 * (x.fraction + 65536 * (x.ns + 10 ^ 9 * x.sec.toNat))
    (units t) % (65536 * 10 ^ 21 * 2 ^ 48)
        = (units s.tbs + n * (524288 * (10 ^ 12 + s.tbs.rate)).toNat) % (65536 * 10 ^ 21 * 2 ^ 48)
      ∧ t.advance = s.tbs.advance + n * (524288 * (10 ^ 12 + s.tbs.rate)).toNat
      ∧ t.superframe = s.tbs.superframe ∧ t.rate = s.tbs.rate ∧ ({ s with tbs := t } : State).counterOk)
    ∧ ∀ s : State, s.pending = [] → s.due = [] → ∃ t b, step s = .next t ∧ t.tbs = { s.tbs.ticks 1 with starting := b }
      ∧ t = { s with tbs := t.tbs, due := t.due, openCount := t.openCount }

/-- R153, R157: at the holdover limit HOLDOVER becomes HOLDOVER_SPENT with class FREQUENCY; the rate is kept. Before it,
and in another state, the expiry brings nothing. -/
def Obligations.HoldoverLimitSpends : Prop :=
  ∀ (env : List Outside) (s : State) (since : Nat),
    let e := s.enter env (.holdoverLimitExpiry env)
    let limit := nsUnits (e.tsv.params.holdoverLimit * 1000000000)
    (e.tsv.state ≠ .holdover → exec (.holdoverLimitExpiry env) s = .next e)
      ∧ (e.tsv.holdoverSince = some since → since ≤ e.tbs.advance → e.tbs.advance < since + limit →
        exec (.holdoverLimitExpiry env) s = .next e)
      ∧ (e.tsv.state = .holdover → e.tsv.holdoverSince = some since → since + limit ≤ e.tbs.advance →
        ∃ t, exec (.holdoverLimitExpiry env) s = .next t
        ∧ t.tsv = { e.tsv with state := .holdoverSpent, timingClass := .frequency } ∧ t.hasEvent .timing = true
        ∧ (∀ k : Tenant, (e.contract k).state = .admitted → e.tsv.timingClass = .phase →
          (t.contract k).state = if (e.contract k).requirement = .phase then .held else .admitted)
        ∧ t.tbs = e.tbs ∧ t.cfr = e.cfr ∧ t.lau = e.lau ∧ t.pqu = e.pqu ∧ t.ras = e.ras ∧ t.tru = e.tru ∧ t.phc = e.phc)

/-- R134, R144, R150: a GNSS edge. It is rejected within 900 ms of counter advance after the last accepted one; accepted
it becomes the candidate, and a pending label of a held sheet is compared in SERVICE and answered. -/
def Obligations.GnssEdgeIsCaptured : Prop :=
  ∀ (env : List Outside) (s : State),
    let e := s.enter env (.gnssEdge env)
    let c : Stamp := { sec := e.tbs.sec, ns := e.tbs.ns }
    let taken : State := { e with
      tbs := { e.tbs with lastCapture := some (c, e.tbs.advance) }
      tsv := { e.tsv with gnssCandidate := some c } }
    (∀ x a, e.tbs.lastCapture = some (x, a) → e.tbs.advance < a + nsUnits 900000000 → exec (.gnssEdge env) s = .next e)
      ∧ ((∀ x a, e.tbs.lastCapture = some (x, a) → a + nsUnits 900000000 ≤ e.tbs.advance) →
        (e.tsv.label = none → exec (.gnssEdge env) s = .next taken)
        ∧ (∀ (v : Seconds) (sheet : SheetIx), e.tsv.label = some ⟨v, some sheet⟩ → e.phc.phase = .service →
          exec (.gnssEdge env) s
            = .next (({ taken with tsv := { taken.tsv with label := none } } : State).answer sheet
              (if v = (if c.ns < 500000000 then c.sec else c.sec + 1) then .done else .labelMismatch) []))
        ∧ (∀ (v : Seconds) (sheet : SheetIx), e.tsv.label = some ⟨v, some sheet⟩ → e.phc.phase = .commission →
          e.tsv.state = .acquiring → ∃ t, exec (.gnssEdge env) s = .next t
            ∧ t.tbs.sec = (if c.ns < 500000000 then v else v - 1) ∧ t.tbs.ns = e.tbs.ns ∧ t.tsv.label = none
            ∧ t.shi.answers = e.shi.answers ++ [⟨sheet, .done, [], false⟩] ∧ t.cfr.a.departures = []))

/-- R135, R137: an output pulses at its instant just when it is enabled, the class meets its squelch class and at least
500 ms of counter advance have passed since its last pulse; at the end of its pulse it goes low and its guard runs on. -/
def Obligations.PpsOutputsPulse : Prop :=
  ∀ (env : List Outside) (o : PpsOut) (s : State),
    (let e := s.enter env (.ppsPulseInstant env o)
      let pulses := e.tbs.pps[o].enable = true ∧ e.tbs.pps[o].squelch.code ≤ e.tsv.timingClass.code
        ∧ ∀ p, e.tbs.pps[o].lastPulse = some p → p + nsUnits 500000000 ≤ e.tbs.advance
      (¬ pulses → exec (.ppsPulseInstant env o) s = .next e)
        ∧ (pulses → exec (.ppsPulseInstant env o) s
          = .next { e with tbs := { e.tbs with
              pps := e.tbs.pps.set o.val { e.tbs.pps[o] with high := true, lastPulse := some e.tbs.advance } } }))
      ∧ (let e := s.enter env (.ppsPulseEnd env o)
        exec (.ppsPulseEnd env o) s
          = .next { e with tbs := { e.tbs with pps := e.tbs.pps.set o.val { e.tbs.pps[o] with high := false } } })

/-! ### Tests -/

/-- R173, R174: a sample of a running SWEEP that is due, in WRAP mode or short of the capture length: the level and the
SNR of the last local report, or -1,000 and 0 without one, go to the capture address plus 4 times the index, the counts
and the peak move, and the index wraps at the capture length. A write that fails is counted as an error and writes
nothing. Where no sample is due nothing happens. That the counts wrap at 2^32 is log entry 69, and where within its
superframe start a sample is made is log entry 74. -/
def Obligations.SweepTakesItsSample : Prop :=
  ∀ (env : List Outside) (good : Bool) (s : State),
    let e := s.enter env (.sweepSample env good)
    let n := if e.tbs.starting then e.tbs.superframe + 1 else e.tbs.superframe
    ((∀ r d, e.tru.running = some r → r.data = .sweep d → 2 ^ 31 ≤ (n - d.nextSample).toNat) →
        exec (.sweepSample env good) s = .next e)
      ∧ ∀ (r : Running) (c : Carrier) (decimation length : Nat) (address : BitVec 64) (wrap : Bool) (flag : Option FlagIx)
        (limit : Int) (d : SweepData), e.tru.running = some r →
        r.record.params = .sweep c decimation address length wrap flag limit → r.data = .sweep d →
        (n - d.nextSample).toNat < 2 ^ 31 → (wrap = true ∨ d.index + 1 ≠ length) → e.memoryOk →
        let written := good = true ∧ e.world.busMaster = true
        let report : LocalReport := match (e.lau.get c).lastLocal with
          | none => ⟨0, -1000⟩
          | some x => x
        ∃ (t : State) (d' : SweepData), exec (.sweepSample env good) s = .next t
          ∧ t.tru = { e.tru with running := some { r with data := .sweep d' } }
          ∧ d'.written = d.written + 1
          ∧ d'.nextSample = d.nextSample + BitVec.ofNat 32 decimation
          ∧ d'.index = (if d.index + 1 = length then 0 else d.index + 1)
          ∧ d'.wraps = (if d.index + 1 = length then d.wraps + 1 else d.wraps)
          ∧ d'.peak = (match d.peak with
            | none => some (report.level, d.index)
            | some (level, index) => if level < report.level then some (report.level, d.index) else some (level, index))
          ∧ (written → d'.writeErrors = d.writeErrors
            ∧ readWord t.world.mem (address + BitVec.ofNat 64 (4 * d.index))
              = BitVec.ofNat 16 report.snr ++ BitVec.ofInt 16 report.level)
          ∧ (¬ written → d'.writeErrors = d.writeErrors + 1 ∧ t.world = e.world)
          ∧ t.cfr = e.cfr ∧ t.lau = e.lau ∧ t.pqu = e.pqu ∧ t.shc = e.shc ∧ t.tbs = e.tbs ∧ t.phc = e.phc ∧ t.shi = e.shi

/-- R167, R170: a running loopback test that is unacknowledged 64 superframes after its start ends with NO_LOOP: its
answer is handed over, its pin and its slots are released, and no flag is written; before that, or acknowledged, it goes
on. -/
def Obligations.NoLoopEndsTheTest : Prop :=
  ∀ (env : List Outside) (s : State) (r : Running),
    let e := s.enter env (.noLoop env)
    let n := if e.tbs.starting then e.tbs.superframe + 1 else e.tbs.superframe
    e.tru.running = some r →
      ((r.kind = .sweep ∨ r.kind = .timeCheck ∨ r.acknowledged = true ∨ (n - r.start).toNat < 64) →
        exec (.noLoop env) s = .next e)
        ∧ ((r.kind = .loopBerOut ∨ r.kind = .loopBerIn ∨ r.kind = .delayCal) → r.acknowledged = false →
          64 ≤ (n - r.start).toNat → ∃ (t : State) (words : List Word), exec (.noLoop env) s = .next t
            ∧ t.tru.running = none ∧ t.tru.verdicts = e.tru.verdicts ∧ t.tru.queue = e.tru.queue
            ∧ (t.lau.get r.carrier).pin = none ∧ t.tru.holdings.get r.carrier = { requirement := .none, echo := false }
            ∧ t.shi = { e.shi with answers := e.shi.answers ++ [⟨r.record.sheet, .noLoop, words, false⟩] }
            ∧ words.head? = some (if r.record.clamped then 1 else 0)
            ∧ t.cfr = e.cfr ∧ t.pqu = e.pqu ∧ t.shc = e.shc ∧ t.ras = e.ras ∧ t.tbs = e.tbs ∧ t.tsv = e.tsv ∧ t.phc = e.phc)

/-- R167, R172, R175, R176: an acknowledged BER test that names no flag, at the start after its duration, ends with
COMPLETED and its counts; an unacknowledged one with NO_LOOP; before that start nothing happens. -/
def Obligations.BerDurationEndsTheTest : Prop :=
  ∀ (env : List Outside) (s : State) (r : Running) (c : Carrier) (p : Profile) (duration limit : Nat) (d : BerData),
    let e := s.enter env (.berDurationEnd env)
    let n := if e.tbs.starting then e.tbs.superframe + 1 else e.tbs.superframe
    e.tru.running = some r → r.record.params = .loopBerOut c p duration none limit → r.data = .ber d →
      ((n - r.start).toNat ≤ duration → exec (.berDurationEnd env) s = .next e)
        ∧ (duration < (n - r.start).toNat → ∃ t, exec (.berDurationEnd env) s = .next t
          ∧ t.tru.running = none ∧ t.tru.verdicts = e.tru.verdicts ∧ (t.lau.get c).pin = none
          ∧ t.shi.answers = e.shi.answers ++ [⟨r.record.sheet, if r.acknowledged then .completed else .noLoop,
              [if r.record.clamped then 1 else 0, d.superframes, d.bits.setWidth 32, (d.bits >>> 32).setWidth 32,
                d.errors.setWidth 32, (d.errors >>> 32).setWidth 32, d.lost], false⟩]
          ∧ t.cfr = e.cfr ∧ t.pqu = e.pqu ∧ t.shc = e.shc ∧ t.tbs = e.tbs ∧ t.tsv = e.tsv ∧ t.phc = e.phc)

/-- R167, R178: a DELAY_CAL with a flag that has not completed by the start of s + 4,096 ends with FAILED, FAIL in its
flag and no D written; before that start it goes on. -/
def Obligations.DelayCalTimesOut : Prop :=
  ∀ (env : List Outside) (s : State) (r : Running) (c : Carrier) (p : Profile) (f : FlagIx) (limit : Nat),
    let e := s.enter env (.delayCalTimeout env)
    let n := if e.tbs.starting then e.tbs.superframe + 1 else e.tbs.superframe
    e.tru.running = some r → r.record.params = .delayCal c p (some f) limit →
      ((n - r.start).toNat < 4096 → exec (.delayCalTimeout env) s = .next e)
        ∧ (4096 ≤ (n - r.start).toNat → ∃ (t : State) (words : List Word), exec (.delayCalTimeout env) s = .next t
          ∧ t.tru.running = none ∧ t.tru.verdicts[f] = ⟨.fail, some (.test .delayCal), some n⟩
          ∧ (∀ g : FlagIx, g ≠ f → t.tru.verdicts[g] = e.tru.verdicts[g])
          ∧ (t.lau.get c).pin = none ∧ (∀ x : Carrier, (t.lau.get x).table = (e.lau.get x).table)
          ∧ t.shi.answers = e.shi.answers ++ [⟨r.record.sheet, .failed, words, false⟩]
          ∧ t.cfr = e.cfr ∧ t.pqu = e.pqu ∧ t.tbs = e.tbs ∧ t.tsv = e.tsv ∧ t.phc.phase = e.phc.phase)

/-- R167, R179: a TIME_CHECK with a flag completes at the end of its N-th counted second: PASS just when there were pairs
for at least half the seconds and the mean, rounded toward zero, lies within the limit; before that it goes on. -/
def Obligations.TimeCheckCompletes : Prop :=
  ∀ (env : List Outside) (s : State) (r : Running) (c : Carrier) (seconds limit : Nat) (f : FlagIx) (d : CheckData),
    let e := s.enter env (.timeCheckCompletion env)
    let pass := 0 < d.pairs ∧ (seconds + 1) / 2 ≤ d.pairs ∧ (d.sum.tdiv d.pairs).natAbs ≤ limit
    e.tru.running = some r → r.record.params = .timeCheck c seconds (some f) limit → r.data = .check d →
      (d.counted < seconds → exec (.timeCheckCompletion env) s = .next e)
        ∧ (seconds ≤ d.counted → ∃ t, exec (.timeCheckCompletion env) s = .next t
          ∧ t.tru.running = none
          ∧ (pass → t.verdict f = .pass ∧ ∃ words, t.shi.answers = e.shi.answers ++ [⟨r.record.sheet, .passed, words, false⟩])
          ∧ (¬ pass → t.verdict f = .fail ∧ ∃ words, t.shi.answers = e.shi.answers ++ [⟨r.record.sheet, .failed, words, false⟩])
          ∧ t.cfr = e.cfr ∧ t.pqu = e.pqu ∧ t.tbs = e.tbs ∧ t.tsv = e.tsv ∧ t.phc.phase = e.phc.phase)

/-! ### Invariants -/

/-- Every invariant below holds right after reset. -/
def Obligations.InvariantsHoldAtReset : Prop :=
  State.reset.memoryOk ∧ State.reset.counterOk ∧ State.reset.cellsOk ∧ State.reset.gatesOk ∧ State.reset.listsOk
    ∧ State.reset.contractsOk

/-- Every step keeps the canonical form of the host's memory. -/
def Obligations.MemoryStaysCanonical : Prop := KeptByStep State.memoryOk

/-- R129, R130: every step keeps the Time Counter's fields and the rate in their ranges. -/
def Obligations.CounterStaysInRange : Prop := KeptByStep State.counterOk

/-- R72: every step keeps the laws of the pool: 8,192 cells in all, and at most 7,936 of them in channel queues. -/
def Obligations.CellsAreConserved : Prop := KeptByStep State.cellsOk

/-- R157, R162, R181, R182: every step keeps gate open, the timing class and the verdict records what the rules make
them. -/
def Obligations.GatesStayCurrent : Prop := KeptByStep State.gatesOk

/-- R9, R16, R44, R53, R59, R111, R156, R164: every step keeps the lists of the part within their greatest lengths. -/
def Obligations.ListsStayBounded : Prop := KeptByStep State.listsOk

/-- R48, R82, R105: every step keeps the contracts clamped and the debts within 447. -/
def Obligations.ContractsStayClamped : Prop := KeptByStep State.contractsOk
end

