-- ==== Sys2Proof/Laws/Memory.lean ====
section
/-! SUPPORT. The laws of the host's memory: a read after a write, and the canonical form. -/

namespace Sys2Proof.Machine

theorem readByte_of_low (mem : List Host.Cell) (low a : Nat) (h : memoryWfFrom (some low) mem = true) (hl : a ≤ low) :
    readByte mem a = unlistedByte := by
  induction mem generalizing low with
  | nil => rfl
  | cons x rest ih =>
    obtain ⟨b, v⟩ := x
    simp only [memoryWfFrom, Bool.and_eq_true, decide_eq_true_eq] at h
    have hb : b ≠ a := by omega
    simp only [readByte, hb, if_false]
    exact ih b h.2 (by omega)

theorem memoryWfFrom_weaken (mem : List Host.Cell) (l m : Nat) (hl : l ≤ m) (h : memoryWfFrom (some m) mem = true) :
    memoryWfFrom (some l) mem = true := by
  cases mem with
  | nil => rfl
  | cons x rest =>
    obtain ⟨b, v⟩ := x
    simp only [memoryWfFrom, Bool.and_eq_true, decide_eq_true_eq] at h ⊢
    exact ⟨⟨by omega, h.1.2⟩, h.2⟩

theorem memoryWfFrom_none (mem : List Host.Cell) (l : Nat) (h : memoryWfFrom (some l) mem = true) :
    memoryWfFrom none mem = true := by
  cases mem with
  | nil => rfl
  | cons x rest =>
    obtain ⟨b, v⟩ := x
    simp only [memoryWfFrom, Bool.and_eq_true, decide_eq_true_eq, Bool.true_and] at h ⊢
    exact ⟨h.1.2, h.2⟩

theorem consCell_wf (a : Nat) (v : Byte) (mem : List Host.Cell) (low : Option Nat)
    (hl : ∀ l, low = some l → l < a) (h : memoryWfFrom (some a) mem = true) :
    memoryWfFrom low (consCell a v mem) = true := by
  unfold consCell
  split
  · cases low with
    | none => exact memoryWfFrom_none mem a h
    | some l => exact memoryWfFrom_weaken mem l a (Nat.le_of_lt (hl l rfl)) h
  · next hv =>
    cases low with
    | none => simp [memoryWfFrom, hv, h]
    | some l => simp [memoryWfFrom, hv, h, hl l rfl]

/-- A write keeps the canonical form behind a lower bound. -/
theorem writeByte_wfFrom (a : Nat) (v : Byte) (mem : List Host.Cell) (low : Option Nat)
    (hl : ∀ l, low = some l → l < a) (h : memoryWfFrom low mem = true) :
    memoryWfFrom low (writeByte a v mem) = true := by
  induction mem generalizing low with
  | nil => exact consCell_wf a v [] low hl rfl
  | cons x rest ih =>
    obtain ⟨b, w⟩ := x
    simp only [memoryWfFrom, Bool.and_eq_true] at h
    unfold writeByte
    split
    · next hab =>
      exact consCell_wf a v _ low hl (by simp [memoryWfFrom, hab, h.1.2, h.2])
    · split
      · next hba =>
        subst hba
        exact consCell_wf b v rest low hl h.2
      · next h1 h2 =>
        have hr := ih (some b) (by intro l e; cases e; omega) h.2
        simp only [memoryWfFrom, Bool.and_eq_true]
        exact ⟨h.1, hr⟩

/-- A write keeps the canonical form. -/
theorem writeByte_wf (a : Nat) (v : Byte) (mem : List Host.Cell) (h : memoryWf mem = true) :
    memoryWf (writeByte a v mem) = true := writeByte_wfFrom a v mem none (by simp) h

/-- Writes of bytes keep the canonical form. -/
theorem writeBytes_wf (address : BitVec 64) (bytes : List Byte) (mem : List Host.Cell) (h : memoryWf mem = true) :
    memoryWf (writeBytes address bytes mem) = true := by
  induction bytes generalizing address mem with
  | nil => exact h
  | cons b rest ih => exact ih _ _ (writeByte_wf _ _ _ h)

theorem readByte_consCell (a x : Nat) (v : Byte) (mem : List Host.Cell) (h : memoryWfFrom (some a) mem = true) :
    readByte (consCell a v mem) x = if x = a then v else readByte mem x := by
  unfold consCell
  split
  · next hv =>
    split
    · next hx => rw [hx, hv]; exact readByte_of_low mem a a h (Nat.le_refl a)
    · rfl
  · by_cases hx : x = a
    · simp [readByte, hx]
    · have : a ≠ x := fun e => hx e.symm
      simp [readByte, hx, this]

theorem readByte_writeByte_from (a x : Nat) (v : Byte) (mem : List Host.Cell) (low : Option Nat)
    (h : memoryWfFrom low mem = true) :
    readByte (writeByte a v mem) x = if x = a then v else readByte mem x := by
  induction mem generalizing low with
  | nil => exact readByte_consCell a x v [] rfl
  | cons c rest ih =>
    obtain ⟨b, w⟩ := c
    simp only [memoryWfFrom, Bool.and_eq_true] at h
    unfold writeByte
    split
    · next hab =>
      refine readByte_consCell a x v _ ?_
      simp only [memoryWfFrom, Bool.and_eq_true, decide_eq_true_eq]
      exact ⟨⟨hab, h.1.2⟩, h.2⟩
    · split
      · next hba =>
        subst hba
        rw [readByte_consCell b x v rest h.2]
        by_cases hx : x = b
        · simp [hx]
        · have : b ≠ x := fun e => hx e.symm
          simp [readByte, hx, this]
      · next h1 h2 =>
        by_cases hb : b = x
        · subst hb
          simp [readByte, h2]
        · simp only [readByte, hb, if_false]
          exact ih (some b) h.2

/-- A read after a write: the value written at its address, the old value elsewhere. -/
theorem readByte_writeByte (a x : Nat) (v : Byte) (mem : List Host.Cell) (h : memoryWf mem = true) :
    readByte (writeByte a v mem) x = if x = a then v else readByte mem x :=
  readByte_writeByte_from a x v mem none h

end Sys2Proof.Machine
end

