-- ==== Sys2Proof/Laws/State.lean ====
section
/-! SUPPORT. What each update of one block does to each field of the state. -/

namespace Sys2Proof.Machine

variable (s : State)

@[simp] theorem State.onShi_shi (f : Shi → Shi) : (s.onShi f).shi = f s.shi := rfl
@[simp] theorem State.onShi_cfr (f : Shi → Shi) : (s.onShi f).cfr = s.cfr := rfl
@[simp] theorem State.onShi_lau (f : Shi → Shi) : (s.onShi f).lau = s.lau := rfl
@[simp] theorem State.onShi_pqu (f : Shi → Shi) : (s.onShi f).pqu = s.pqu := rfl
@[simp] theorem State.onShi_shc (f : Shi → Shi) : (s.onShi f).shc = s.shc := rfl
@[simp] theorem State.onShi_slf (f : Shi → Shi) : (s.onShi f).slf = s.slf := rfl
@[simp] theorem State.onShi_ras (f : Shi → Shi) : (s.onShi f).ras = s.ras := rfl
@[simp] theorem State.onShi_tbs (f : Shi → Shi) : (s.onShi f).tbs = s.tbs := rfl
@[simp] theorem State.onShi_tsv (f : Shi → Shi) : (s.onShi f).tsv = s.tsv := rfl
@[simp] theorem State.onShi_tru (f : Shi → Shi) : (s.onShi f).tru = s.tru := rfl
@[simp] theorem State.onShi_phc (f : Shi → Shi) : (s.onShi f).phc = s.phc := rfl
@[simp] theorem State.onShi_world (f : Shi → Shi) : (s.onShi f).world = s.world := rfl
@[simp] theorem State.onShi_outputs (f : Shi → Shi) : (s.onShi f).outputs = s.outputs := rfl
@[simp] theorem State.onShi_due (f : Shi → Shi) : (s.onShi f).due = s.due := rfl
@[simp] theorem State.onShi_openCount (f : Shi → Shi) : (s.onShi f).openCount = s.openCount := rfl
@[simp] theorem State.onShi_pending (f : Shi → Shi) : (s.onShi f).pending = s.pending := rfl

@[simp] theorem State.onFramer_shi (c : Carrier) (f : Framer → Framer) : (s.onFramer c f).shi = s.shi := rfl
@[simp] theorem State.onFramer_cfr (c : Carrier) (f : Framer → Framer) : (s.onFramer c f).cfr = s.cfr.modify c f := rfl
@[simp] theorem State.onFramer_lau (c : Carrier) (f : Framer → Framer) : (s.onFramer c f).lau = s.lau := rfl
@[simp] theorem State.onFramer_pqu (c : Carrier) (f : Framer → Framer) : (s.onFramer c f).pqu = s.pqu := rfl
@[simp] theorem State.onFramer_shc (c : Carrier) (f : Framer → Framer) : (s.onFramer c f).shc = s.shc := rfl
@[simp] theorem State.onFramer_slf (c : Carrier) (f : Framer → Framer) : (s.onFramer c f).slf = s.slf := rfl
@[simp] theorem State.onFramer_ras (c : Carrier) (f : Framer → Framer) : (s.onFramer c f).ras = s.ras := rfl
@[simp] theorem State.onFramer_tbs (c : Carrier) (f : Framer → Framer) : (s.onFramer c f).tbs = s.tbs := rfl
@[simp] theorem State.onFramer_tsv (c : Carrier) (f : Framer → Framer) : (s.onFramer c f).tsv = s.tsv := rfl
@[simp] theorem State.onFramer_tru (c : Carrier) (f : Framer → Framer) : (s.onFramer c f).tru = s.tru := rfl
@[simp] theorem State.onFramer_phc (c : Carrier) (f : Framer → Framer) : (s.onFramer c f).phc = s.phc := rfl
@[simp] theorem State.onFramer_world (c : Carrier) (f : Framer → Framer) : (s.onFramer c f).world = s.world := rfl
@[simp] theorem State.onFramer_outputs (c : Carrier) (f : Framer → Framer) : (s.onFramer c f).outputs = s.outputs := rfl
@[simp] theorem State.onFramer_due (c : Carrier) (f : Framer → Framer) : (s.onFramer c f).due = s.due := rfl
@[simp] theorem State.onFramer_openCount (c : Carrier) (f : Framer → Framer) : (s.onFramer c f).openCount = s.openCount := rfl
@[simp] theorem State.onFramer_pending (c : Carrier) (f : Framer → Framer) : (s.onFramer c f).pending = s.pending := rfl

@[simp] theorem State.onAdapt_shi (c : Carrier) (f : Adaptation → Adaptation) : (s.onAdapt c f).shi = s.shi := rfl
@[simp] theorem State.onAdapt_cfr (c : Carrier) (f : Adaptation → Adaptation) : (s.onAdapt c f).cfr = s.cfr := rfl
@[simp] theorem State.onAdapt_lau (c : Carrier) (f : Adaptation → Adaptation) : (s.onAdapt c f).lau = s.lau.modify c f := rfl
@[simp] theorem State.onAdapt_pqu (c : Carrier) (f : Adaptation → Adaptation) : (s.onAdapt c f).pqu = s.pqu := rfl
@[simp] theorem State.onAdapt_shc (c : Carrier) (f : Adaptation → Adaptation) : (s.onAdapt c f).shc = s.shc := rfl
@[simp] theorem State.onAdapt_slf (c : Carrier) (f : Adaptation → Adaptation) : (s.onAdapt c f).slf = s.slf := rfl
@[simp] theorem State.onAdapt_ras (c : Carrier) (f : Adaptation → Adaptation) : (s.onAdapt c f).ras = s.ras := rfl
@[simp] theorem State.onAdapt_tbs (c : Carrier) (f : Adaptation → Adaptation) : (s.onAdapt c f).tbs = s.tbs := rfl
@[simp] theorem State.onAdapt_tsv (c : Carrier) (f : Adaptation → Adaptation) : (s.onAdapt c f).tsv = s.tsv := rfl
@[simp] theorem State.onAdapt_tru (c : Carrier) (f : Adaptation → Adaptation) : (s.onAdapt c f).tru = s.tru := rfl
@[simp] theorem State.onAdapt_phc (c : Carrier) (f : Adaptation → Adaptation) : (s.onAdapt c f).phc = s.phc := rfl
@[simp] theorem State.onAdapt_world (c : Carrier) (f : Adaptation → Adaptation) : (s.onAdapt c f).world = s.world := rfl
@[simp] theorem State.onAdapt_outputs (c : Carrier) (f : Adaptation → Adaptation) : (s.onAdapt c f).outputs = s.outputs := rfl
@[simp] theorem State.onAdapt_due (c : Carrier) (f : Adaptation → Adaptation) : (s.onAdapt c f).due = s.due := rfl
@[simp] theorem State.onAdapt_openCount (c : Carrier) (f : Adaptation → Adaptation) : (s.onAdapt c f).openCount = s.openCount := rfl
@[simp] theorem State.onAdapt_pending (c : Carrier) (f : Adaptation → Adaptation) : (s.onAdapt c f).pending = s.pending := rfl

@[simp] theorem State.onPqu_shi (f : Pqu → Pqu) : (s.onPqu f).shi = s.shi := rfl
@[simp] theorem State.onPqu_cfr (f : Pqu → Pqu) : (s.onPqu f).cfr = s.cfr := rfl
@[simp] theorem State.onPqu_lau (f : Pqu → Pqu) : (s.onPqu f).lau = s.lau := rfl
@[simp] theorem State.onPqu_pqu (f : Pqu → Pqu) : (s.onPqu f).pqu = f s.pqu := rfl
@[simp] theorem State.onPqu_shc (f : Pqu → Pqu) : (s.onPqu f).shc = s.shc := rfl
@[simp] theorem State.onPqu_slf (f : Pqu → Pqu) : (s.onPqu f).slf = s.slf := rfl
@[simp] theorem State.onPqu_ras (f : Pqu → Pqu) : (s.onPqu f).ras = s.ras := rfl
@[simp] theorem State.onPqu_tbs (f : Pqu → Pqu) : (s.onPqu f).tbs = s.tbs := rfl
@[simp] theorem State.onPqu_tsv (f : Pqu → Pqu) : (s.onPqu f).tsv = s.tsv := rfl
@[simp] theorem State.onPqu_tru (f : Pqu → Pqu) : (s.onPqu f).tru = s.tru := rfl
@[simp] theorem State.onPqu_phc (f : Pqu → Pqu) : (s.onPqu f).phc = s.phc := rfl
@[simp] theorem State.onPqu_world (f : Pqu → Pqu) : (s.onPqu f).world = s.world := rfl
@[simp] theorem State.onPqu_outputs (f : Pqu → Pqu) : (s.onPqu f).outputs = s.outputs := rfl
@[simp] theorem State.onPqu_due (f : Pqu → Pqu) : (s.onPqu f).due = s.due := rfl
@[simp] theorem State.onPqu_openCount (f : Pqu → Pqu) : (s.onPqu f).openCount = s.openCount := rfl
@[simp] theorem State.onPqu_pending (f : Pqu → Pqu) : (s.onPqu f).pending = s.pending := rfl

@[simp] theorem State.onShc_shi (f : Shc → Shc) : (s.onShc f).shi = s.shi := rfl
@[simp] theorem State.onShc_cfr (f : Shc → Shc) : (s.onShc f).cfr = s.cfr := rfl
@[simp] theorem State.onShc_lau (f : Shc → Shc) : (s.onShc f).lau = s.lau := rfl
@[simp] theorem State.onShc_pqu (f : Shc → Shc) : (s.onShc f).pqu = s.pqu := rfl
@[simp] theorem State.onShc_shc (f : Shc → Shc) : (s.onShc f).shc = f s.shc := rfl
@[simp] theorem State.onShc_slf (f : Shc → Shc) : (s.onShc f).slf = s.slf := rfl
@[simp] theorem State.onShc_ras (f : Shc → Shc) : (s.onShc f).ras = s.ras := rfl
@[simp] theorem State.onShc_tbs (f : Shc → Shc) : (s.onShc f).tbs = s.tbs := rfl
@[simp] theorem State.onShc_tsv (f : Shc → Shc) : (s.onShc f).tsv = s.tsv := rfl
@[simp] theorem State.onShc_tru (f : Shc → Shc) : (s.onShc f).tru = s.tru := rfl
@[simp] theorem State.onShc_phc (f : Shc → Shc) : (s.onShc f).phc = s.phc := rfl
@[simp] theorem State.onShc_world (f : Shc → Shc) : (s.onShc f).world = s.world := rfl
@[simp] theorem State.onShc_outputs (f : Shc → Shc) : (s.onShc f).outputs = s.outputs := rfl
@[simp] theorem State.onShc_due (f : Shc → Shc) : (s.onShc f).due = s.due := rfl
@[simp] theorem State.onShc_openCount (f : Shc → Shc) : (s.onShc f).openCount = s.openCount := rfl
@[simp] theorem State.onShc_pending (f : Shc → Shc) : (s.onShc f).pending = s.pending := rfl

@[simp] theorem State.onOutStream_shi (t : Tenant) (f : OutStream → OutStream) : (s.onOutStream t f).shi = s.shi := rfl
@[simp] theorem State.onOutStream_cfr (t : Tenant) (f : OutStream → OutStream) : (s.onOutStream t f).cfr = s.cfr := rfl
@[simp] theorem State.onOutStream_lau (t : Tenant) (f : OutStream → OutStream) : (s.onOutStream t f).lau = s.lau := rfl
@[simp] theorem State.onOutStream_pqu (t : Tenant) (f : OutStream → OutStream) : (s.onOutStream t f).pqu = s.pqu := rfl
@[simp] theorem State.onOutStream_shc (t : Tenant) (f : OutStream → OutStream) : (s.onOutStream t f).shc = s.shc := rfl
@[simp] theorem State.onOutStream_slf (t : Tenant) (f : OutStream → OutStream) : (s.onOutStream t f).slf = tableModify s.slf t f := rfl
@[simp] theorem State.onOutStream_ras (t : Tenant) (f : OutStream → OutStream) : (s.onOutStream t f).ras = s.ras := rfl
@[simp] theorem State.onOutStream_tbs (t : Tenant) (f : OutStream → OutStream) : (s.onOutStream t f).tbs = s.tbs := rfl
@[simp] theorem State.onOutStream_tsv (t : Tenant) (f : OutStream → OutStream) : (s.onOutStream t f).tsv = s.tsv := rfl
@[simp] theorem State.onOutStream_tru (t : Tenant) (f : OutStream → OutStream) : (s.onOutStream t f).tru = s.tru := rfl
@[simp] theorem State.onOutStream_phc (t : Tenant) (f : OutStream → OutStream) : (s.onOutStream t f).phc = s.phc := rfl
@[simp] theorem State.onOutStream_world (t : Tenant) (f : OutStream → OutStream) : (s.onOutStream t f).world = s.world := rfl
@[simp] theorem State.onOutStream_outputs (t : Tenant) (f : OutStream → OutStream) : (s.onOutStream t f).outputs = s.outputs := rfl
@[simp] theorem State.onOutStream_due (t : Tenant) (f : OutStream → OutStream) : (s.onOutStream t f).due = s.due := rfl
@[simp] theorem State.onOutStream_openCount (t : Tenant) (f : OutStream → OutStream) : (s.onOutStream t f).openCount = s.openCount := rfl
@[simp] theorem State.onOutStream_pending (t : Tenant) (f : OutStream → OutStream) : (s.onOutStream t f).pending = s.pending := rfl

@[simp] theorem State.onRas_shi (f : Ras → Ras) : (s.onRas f).shi = s.shi := rfl
@[simp] theorem State.onRas_cfr (f : Ras → Ras) : (s.onRas f).cfr = s.cfr := rfl
@[simp] theorem State.onRas_lau (f : Ras → Ras) : (s.onRas f).lau = s.lau := rfl
@[simp] theorem State.onRas_pqu (f : Ras → Ras) : (s.onRas f).pqu = s.pqu := rfl
@[simp] theorem State.onRas_shc (f : Ras → Ras) : (s.onRas f).shc = s.shc := rfl
@[simp] theorem State.onRas_slf (f : Ras → Ras) : (s.onRas f).slf = s.slf := rfl
@[simp] theorem State.onRas_ras (f : Ras → Ras) : (s.onRas f).ras = f s.ras := rfl
@[simp] theorem State.onRas_tbs (f : Ras → Ras) : (s.onRas f).tbs = s.tbs := rfl
@[simp] theorem State.onRas_tsv (f : Ras → Ras) : (s.onRas f).tsv = s.tsv := rfl
@[simp] theorem State.onRas_tru (f : Ras → Ras) : (s.onRas f).tru = s.tru := rfl
@[simp] theorem State.onRas_phc (f : Ras → Ras) : (s.onRas f).phc = s.phc := rfl
@[simp] theorem State.onRas_world (f : Ras → Ras) : (s.onRas f).world = s.world := rfl
@[simp] theorem State.onRas_outputs (f : Ras → Ras) : (s.onRas f).outputs = s.outputs := rfl
@[simp] theorem State.onRas_due (f : Ras → Ras) : (s.onRas f).due = s.due := rfl
@[simp] theorem State.onRas_openCount (f : Ras → Ras) : (s.onRas f).openCount = s.openCount := rfl
@[simp] theorem State.onRas_pending (f : Ras → Ras) : (s.onRas f).pending = s.pending := rfl

@[simp] theorem State.onTbs_shi (f : Tbs → Tbs) : (s.onTbs f).shi = s.shi := rfl
@[simp] theorem State.onTbs_cfr (f : Tbs → Tbs) : (s.onTbs f).cfr = s.cfr := rfl
@[simp] theorem State.onTbs_lau (f : Tbs → Tbs) : (s.onTbs f).lau = s.lau := rfl
@[simp] theorem State.onTbs_pqu (f : Tbs → Tbs) : (s.onTbs f).pqu = s.pqu := rfl
@[simp] theorem State.onTbs_shc (f : Tbs → Tbs) : (s.onTbs f).shc = s.shc := rfl
@[simp] theorem State.onTbs_slf (f : Tbs → Tbs) : (s.onTbs f).slf = s.slf := rfl
@[simp] theorem State.onTbs_ras (f : Tbs → Tbs) : (s.onTbs f).ras = s.ras := rfl
@[simp] theorem State.onTbs_tbs (f : Tbs → Tbs) : (s.onTbs f).tbs = f s.tbs := rfl
@[simp] theorem State.onTbs_tsv (f : Tbs → Tbs) : (s.onTbs f).tsv = s.tsv := rfl
@[simp] theorem State.onTbs_tru (f : Tbs → Tbs) : (s.onTbs f).tru = s.tru := rfl
@[simp] theorem State.onTbs_phc (f : Tbs → Tbs) : (s.onTbs f).phc = s.phc := rfl
@[simp] theorem State.onTbs_world (f : Tbs → Tbs) : (s.onTbs f).world = s.world := rfl
@[simp] theorem State.onTbs_outputs (f : Tbs → Tbs) : (s.onTbs f).outputs = s.outputs := rfl
@[simp] theorem State.onTbs_due (f : Tbs → Tbs) : (s.onTbs f).due = s.due := rfl
@[simp] theorem State.onTbs_openCount (f : Tbs → Tbs) : (s.onTbs f).openCount = s.openCount := rfl
@[simp] theorem State.onTbs_pending (f : Tbs → Tbs) : (s.onTbs f).pending = s.pending := rfl

@[simp] theorem State.onTsv_shi (f : Tsv → Tsv) : (s.onTsv f).shi = s.shi := rfl
@[simp] theorem State.onTsv_cfr (f : Tsv → Tsv) : (s.onTsv f).cfr = s.cfr := rfl
@[simp] theorem State.onTsv_lau (f : Tsv → Tsv) : (s.onTsv f).lau = s.lau := rfl
@[simp] theorem State.onTsv_pqu (f : Tsv → Tsv) : (s.onTsv f).pqu = s.pqu := rfl
@[simp] theorem State.onTsv_shc (f : Tsv → Tsv) : (s.onTsv f).shc = s.shc := rfl
@[simp] theorem State.onTsv_slf (f : Tsv → Tsv) : (s.onTsv f).slf = s.slf := rfl
@[simp] theorem State.onTsv_ras (f : Tsv → Tsv) : (s.onTsv f).ras = s.ras := rfl
@[simp] theorem State.onTsv_tbs (f : Tsv → Tsv) : (s.onTsv f).tbs = s.tbs := rfl
@[simp] theorem State.onTsv_tsv (f : Tsv → Tsv) : (s.onTsv f).tsv = f s.tsv := rfl
@[simp] theorem State.onTsv_tru (f : Tsv → Tsv) : (s.onTsv f).tru = s.tru := rfl
@[simp] theorem State.onTsv_phc (f : Tsv → Tsv) : (s.onTsv f).phc = s.phc := rfl
@[simp] theorem State.onTsv_world (f : Tsv → Tsv) : (s.onTsv f).world = s.world := rfl
@[simp] theorem State.onTsv_outputs (f : Tsv → Tsv) : (s.onTsv f).outputs = s.outputs := rfl
@[simp] theorem State.onTsv_due (f : Tsv → Tsv) : (s.onTsv f).due = s.due := rfl
@[simp] theorem State.onTsv_openCount (f : Tsv → Tsv) : (s.onTsv f).openCount = s.openCount := rfl
@[simp] theorem State.onTsv_pending (f : Tsv → Tsv) : (s.onTsv f).pending = s.pending := rfl

@[simp] theorem State.onTru_shi (f : Tru → Tru) : (s.onTru f).shi = s.shi := rfl
@[simp] theorem State.onTru_cfr (f : Tru → Tru) : (s.onTru f).cfr = s.cfr := rfl
@[simp] theorem State.onTru_lau (f : Tru → Tru) : (s.onTru f).lau = s.lau := rfl
@[simp] theorem State.onTru_pqu (f : Tru → Tru) : (s.onTru f).pqu = s.pqu := rfl
@[simp] theorem State.onTru_shc (f : Tru → Tru) : (s.onTru f).shc = s.shc := rfl
@[simp] theorem State.onTru_slf (f : Tru → Tru) : (s.onTru f).slf = s.slf := rfl
@[simp] theorem State.onTru_ras (f : Tru → Tru) : (s.onTru f).ras = s.ras := rfl
@[simp] theorem State.onTru_tbs (f : Tru → Tru) : (s.onTru f).tbs = s.tbs := rfl
@[simp] theorem State.onTru_tsv (f : Tru → Tru) : (s.onTru f).tsv = s.tsv := rfl
@[simp] theorem State.onTru_tru (f : Tru → Tru) : (s.onTru f).tru = f s.tru := rfl
@[simp] theorem State.onTru_phc (f : Tru → Tru) : (s.onTru f).phc = s.phc := rfl
@[simp] theorem State.onTru_world (f : Tru → Tru) : (s.onTru f).world = s.world := rfl
@[simp] theorem State.onTru_outputs (f : Tru → Tru) : (s.onTru f).outputs = s.outputs := rfl
@[simp] theorem State.onTru_due (f : Tru → Tru) : (s.onTru f).due = s.due := rfl
@[simp] theorem State.onTru_openCount (f : Tru → Tru) : (s.onTru f).openCount = s.openCount := rfl
@[simp] theorem State.onTru_pending (f : Tru → Tru) : (s.onTru f).pending = s.pending := rfl

@[simp] theorem State.onPhc_shi (f : Phc → Phc) : (s.onPhc f).shi = s.shi := rfl
@[simp] theorem State.onPhc_cfr (f : Phc → Phc) : (s.onPhc f).cfr = s.cfr := rfl
@[simp] theorem State.onPhc_lau (f : Phc → Phc) : (s.onPhc f).lau = s.lau := rfl
@[simp] theorem State.onPhc_pqu (f : Phc → Phc) : (s.onPhc f).pqu = s.pqu := rfl
@[simp] theorem State.onPhc_shc (f : Phc → Phc) : (s.onPhc f).shc = s.shc := rfl
@[simp] theorem State.onPhc_slf (f : Phc → Phc) : (s.onPhc f).slf = s.slf := rfl
@[simp] theorem State.onPhc_ras (f : Phc → Phc) : (s.onPhc f).ras = s.ras := rfl
@[simp] theorem State.onPhc_tbs (f : Phc → Phc) : (s.onPhc f).tbs = s.tbs := rfl
@[simp] theorem State.onPhc_tsv (f : Phc → Phc) : (s.onPhc f).tsv = s.tsv := rfl
@[simp] theorem State.onPhc_tru (f : Phc → Phc) : (s.onPhc f).tru = s.tru := rfl
@[simp] theorem State.onPhc_phc (f : Phc → Phc) : (s.onPhc f).phc = f s.phc := rfl
@[simp] theorem State.onPhc_world (f : Phc → Phc) : (s.onPhc f).world = s.world := rfl
@[simp] theorem State.onPhc_outputs (f : Phc → Phc) : (s.onPhc f).outputs = s.outputs := rfl
@[simp] theorem State.onPhc_due (f : Phc → Phc) : (s.onPhc f).due = s.due := rfl
@[simp] theorem State.onPhc_openCount (f : Phc → Phc) : (s.onPhc f).openCount = s.openCount := rfl
@[simp] theorem State.onPhc_pending (f : Phc → Phc) : (s.onPhc f).pending = s.pending := rfl

@[simp] theorem State.onWorld_shi (f : World → World) : (s.onWorld f).shi = s.shi := rfl
@[simp] theorem State.onWorld_cfr (f : World → World) : (s.onWorld f).cfr = s.cfr := rfl
@[simp] theorem State.onWorld_lau (f : World → World) : (s.onWorld f).lau = s.lau := rfl
@[simp] theorem State.onWorld_pqu (f : World → World) : (s.onWorld f).pqu = s.pqu := rfl
@[simp] theorem State.onWorld_shc (f : World → World) : (s.onWorld f).shc = s.shc := rfl
@[simp] theorem State.onWorld_slf (f : World → World) : (s.onWorld f).slf = s.slf := rfl
@[simp] theorem State.onWorld_ras (f : World → World) : (s.onWorld f).ras = s.ras := rfl
@[simp] theorem State.onWorld_tbs (f : World → World) : (s.onWorld f).tbs = s.tbs := rfl
@[simp] theorem State.onWorld_tsv (f : World → World) : (s.onWorld f).tsv = s.tsv := rfl
@[simp] theorem State.onWorld_tru (f : World → World) : (s.onWorld f).tru = s.tru := rfl
@[simp] theorem State.onWorld_phc (f : World → World) : (s.onWorld f).phc = s.phc := rfl
@[simp] theorem State.onWorld_world (f : World → World) : (s.onWorld f).world = f s.world := rfl
@[simp] theorem State.onWorld_outputs (f : World → World) : (s.onWorld f).outputs = s.outputs := rfl
@[simp] theorem State.onWorld_due (f : World → World) : (s.onWorld f).due = s.due := rfl
@[simp] theorem State.onWorld_openCount (f : World → World) : (s.onWorld f).openCount = s.openCount := rfl
@[simp] theorem State.onWorld_pending (f : World → World) : (s.onWorld f).pending = s.pending := rfl

@[simp] theorem State.emit_shi (o : Output) : (s.emit o).shi = s.shi := rfl
@[simp] theorem State.emit_cfr (o : Output) : (s.emit o).cfr = s.cfr := rfl
@[simp] theorem State.emit_lau (o : Output) : (s.emit o).lau = s.lau := rfl
@[simp] theorem State.emit_pqu (o : Output) : (s.emit o).pqu = s.pqu := rfl
@[simp] theorem State.emit_shc (o : Output) : (s.emit o).shc = s.shc := rfl
@[simp] theorem State.emit_slf (o : Output) : (s.emit o).slf = s.slf := rfl
@[simp] theorem State.emit_ras (o : Output) : (s.emit o).ras = s.ras := rfl
@[simp] theorem State.emit_tbs (o : Output) : (s.emit o).tbs = s.tbs := rfl
@[simp] theorem State.emit_tsv (o : Output) : (s.emit o).tsv = s.tsv := rfl
@[simp] theorem State.emit_tru (o : Output) : (s.emit o).tru = s.tru := rfl
@[simp] theorem State.emit_phc (o : Output) : (s.emit o).phc = s.phc := rfl
@[simp] theorem State.emit_world (o : Output) : (s.emit o).world = s.world := rfl
@[simp] theorem State.emit_outputs (o : Output) : (s.emit o).outputs = s.outputs ++ [o] := rfl
@[simp] theorem State.emit_due (o : Output) : (s.emit o).due = s.due := rfl
@[simp] theorem State.emit_openCount (o : Output) : (s.emit o).openCount = s.openCount := rfl
@[simp] theorem State.emit_pending (o : Output) : (s.emit o).pending = s.pending := rfl

@[simp] theorem State.fallDue_shi (c : Instr) : (s.fallDue c).shi = s.shi := rfl
@[simp] theorem State.fallDue_cfr (c : Instr) : (s.fallDue c).cfr = s.cfr := rfl
@[simp] theorem State.fallDue_lau (c : Instr) : (s.fallDue c).lau = s.lau := rfl
@[simp] theorem State.fallDue_pqu (c : Instr) : (s.fallDue c).pqu = s.pqu := rfl
@[simp] theorem State.fallDue_shc (c : Instr) : (s.fallDue c).shc = s.shc := rfl
@[simp] theorem State.fallDue_slf (c : Instr) : (s.fallDue c).slf = s.slf := rfl
@[simp] theorem State.fallDue_ras (c : Instr) : (s.fallDue c).ras = s.ras := rfl
@[simp] theorem State.fallDue_tbs (c : Instr) : (s.fallDue c).tbs = s.tbs := rfl
@[simp] theorem State.fallDue_tsv (c : Instr) : (s.fallDue c).tsv = s.tsv := rfl
@[simp] theorem State.fallDue_tru (c : Instr) : (s.fallDue c).tru = s.tru := rfl
@[simp] theorem State.fallDue_phc (c : Instr) : (s.fallDue c).phc = s.phc := rfl
@[simp] theorem State.fallDue_world (c : Instr) : (s.fallDue c).world = s.world := rfl
@[simp] theorem State.fallDue_outputs (c : Instr) : (s.fallDue c).outputs = s.outputs := rfl
@[simp] theorem State.fallDue_due (c : Instr) : (s.fallDue c).due = s.due ++ [c] := rfl
@[simp] theorem State.fallDue_openCount (c : Instr) : (s.fallDue c).openCount = s.openCount := rfl
@[simp] theorem State.fallDue_pending (c : Instr) : (s.fallDue c).pending = s.pending := rfl

@[simp] theorem State.settle_shi (c : Instr) : (s.settle c).shi = s.shi := rfl
@[simp] theorem State.settle_cfr (c : Instr) : (s.settle c).cfr = s.cfr := rfl
@[simp] theorem State.settle_lau (c : Instr) : (s.settle c).lau = s.lau := rfl
@[simp] theorem State.settle_pqu (c : Instr) : (s.settle c).pqu = s.pqu := rfl
@[simp] theorem State.settle_shc (c : Instr) : (s.settle c).shc = s.shc := rfl
@[simp] theorem State.settle_slf (c : Instr) : (s.settle c).slf = s.slf := rfl
@[simp] theorem State.settle_ras (c : Instr) : (s.settle c).ras = s.ras := rfl
@[simp] theorem State.settle_tbs (c : Instr) : (s.settle c).tbs = s.tbs := rfl
@[simp] theorem State.settle_tsv (c : Instr) : (s.settle c).tsv = s.tsv := rfl
@[simp] theorem State.settle_tru (c : Instr) : (s.settle c).tru = s.tru := rfl
@[simp] theorem State.settle_phc (c : Instr) : (s.settle c).phc = s.phc := rfl
@[simp] theorem State.settle_world (c : Instr) : (s.settle c).world = s.world := rfl
@[simp] theorem State.settle_outputs (c : Instr) : (s.settle c).outputs = s.outputs := rfl
@[simp] theorem State.settle_due (c : Instr) : (s.settle c).due = s.due.erase (bareCommand c) := rfl
@[simp] theorem State.settle_openCount (c : Instr) : (s.settle c).openCount = s.openCount := rfl
@[simp] theorem State.settle_pending (c : Instr) : (s.settle c).pending = s.pending := rfl

@[simp] theorem State.draw_shi : (s.draw).shi = s.shi := rfl
@[simp] theorem State.draw_cfr : (s.draw).cfr = s.cfr := rfl
@[simp] theorem State.draw_lau : (s.draw).lau = s.lau := rfl
@[simp] theorem State.draw_pqu : (s.draw).pqu = s.pqu := rfl
@[simp] theorem State.draw_shc : (s.draw).shc = s.shc := rfl
@[simp] theorem State.draw_slf : (s.draw).slf = s.slf := rfl
@[simp] theorem State.draw_ras : (s.draw).ras = s.ras := rfl
@[simp] theorem State.draw_tbs : (s.draw).tbs = s.tbs := rfl
@[simp] theorem State.draw_tsv : (s.draw).tsv = s.tsv := rfl
@[simp] theorem State.draw_tru : (s.draw).tru = s.tru := rfl
@[simp] theorem State.draw_phc : (s.draw).phc = s.phc := rfl
@[simp] theorem State.draw_world : (s.draw).world = s.world := rfl
@[simp] theorem State.draw_outputs : (s.draw).outputs = s.outputs := rfl
@[simp] theorem State.draw_due : (s.draw).due = s.due := rfl
@[simp] theorem State.draw_openCount : (s.draw).openCount = s.openCount + 1 := rfl
@[simp] theorem State.draw_pending : (s.draw).pending = s.pending := rfl

end Sys2Proof.Machine
end

