-- ==== Sys2Proof/Laws/Ops.lean ====
section
/-! SUPPORT. What the shared operations can do, said once. -/

namespace Sys2Proof.Machine

/-! ### One value for each carrier -/

@[simp] theorem PerCarrier.get_modify_same {α : Type} (p : PerCarrier α) (c : Carrier) (f : α → α) :
    (p.modify c f).get c = f (p.get c) := by cases c <;> rfl

theorem PerCarrier.get_modify {α : Type} (p : PerCarrier α) (c d : Carrier) (f : α → α) :
    (p.modify c f).get d = if d = c then f (p.get d) else p.get d := by cases c <;> cases d <;> rfl

@[simp] theorem PerCarrier.modify_a_get {α : Type} (p : PerCarrier α) (f : α → α) :
    (p.modify .a f).a = f p.a ∧ (p.modify .a f).b = p.b := ⟨rfl, rfl⟩

@[simp] theorem PerCarrier.modify_b_get {α : Type} (p : PerCarrier α) (f : α → α) :
    (p.modify .b f).a = p.a ∧ (p.modify .b f).b = f p.b := ⟨rfl, rfl⟩

/-! ### Tables -/

theorem tableModify_get {α : Type} {n : Nat} (v : Vector α n) (i j : Fin n) (f : α → α) :
    (tableModify v i f)[j] = if j = i then f v[j] else v[j] := by
  by_cases h : j = i
  · subst h; simp [tableModify]
  · have : i.val ≠ j.val := fun e => h (Fin.ext e.symm)
    simp [tableModify, h, this]

@[simp] theorem tableModify_same {α : Type} {n : Nat} (v : Vector α n) (i : Fin n) (f : α → α) :
    (tableModify v i f)[i.val] = f v[i.val] := by simp [tableModify]

@[simp] theorem tableMap_get {α β : Type} {n : Nat} (g : Fin n → α → β) (v : Vector α n) (i : Fin n) :
    (tableMap g v)[i.val] = g i v[i.val] := by simp [tableMap]

/-! ### Events and answers -/

/-- What the adding of a kind does: the kind joins the summary, and an interrupt is given when the masked summary was empty
and is so no longer and the host allows it. -/
theorem State.addEvent_eq (k : EventKind) (s : State) :
    s.addEvent k =
      { s with
        shi := { s.shi with events := s.shi.events ||| k.bit }
        outputs := s.outputs ++
          if maskedSummary s.shi = 0 ∧ maskedSummary { s.shi with events := s.shi.events ||| k.bit } ≠ 0
              ∧ s.world.interrupts = true ∧ s.world.busMaster = true then [.interrupt] else [] } := by
  unfold State.addEvent State.interruptAfter
  split <;> simp_all [State.onShi, State.emit]

@[simp] theorem State.addEvent_shi (k : EventKind) (s : State) :
    (s.addEvent k).shi = { s.shi with events := s.shi.events ||| k.bit } := by rw [State.addEvent_eq]
@[simp] theorem State.addEvent_cfr (k : EventKind) (s : State) : (s.addEvent k).cfr = s.cfr := by rw [State.addEvent_eq]
@[simp] theorem State.addEvent_lau (k : EventKind) (s : State) : (s.addEvent k).lau = s.lau := by rw [State.addEvent_eq]
@[simp] theorem State.addEvent_pqu (k : EventKind) (s : State) : (s.addEvent k).pqu = s.pqu := by rw [State.addEvent_eq]
@[simp] theorem State.addEvent_shc (k : EventKind) (s : State) : (s.addEvent k).shc = s.shc := by rw [State.addEvent_eq]
@[simp] theorem State.addEvent_slf (k : EventKind) (s : State) : (s.addEvent k).slf = s.slf := by rw [State.addEvent_eq]
@[simp] theorem State.addEvent_ras (k : EventKind) (s : State) : (s.addEvent k).ras = s.ras := by rw [State.addEvent_eq]
@[simp] theorem State.addEvent_tbs (k : EventKind) (s : State) : (s.addEvent k).tbs = s.tbs := by rw [State.addEvent_eq]
@[simp] theorem State.addEvent_tsv (k : EventKind) (s : State) : (s.addEvent k).tsv = s.tsv := by rw [State.addEvent_eq]
@[simp] theorem State.addEvent_tru (k : EventKind) (s : State) : (s.addEvent k).tru = s.tru := by rw [State.addEvent_eq]
@[simp] theorem State.addEvent_phc (k : EventKind) (s : State) : (s.addEvent k).phc = s.phc := by rw [State.addEvent_eq]
@[simp] theorem State.addEvent_world (k : EventKind) (s : State) : (s.addEvent k).world = s.world := by
  rw [State.addEvent_eq]
@[simp] theorem State.addEvent_due (k : EventKind) (s : State) : (s.addEvent k).due = s.due := by rw [State.addEvent_eq]
@[simp] theorem State.addEvent_openCount (k : EventKind) (s : State) : (s.addEvent k).openCount = s.openCount := by
  rw [State.addEvent_eq]
@[simp] theorem State.addEvent_pending (k : EventKind) (s : State) : (s.addEvent k).pending = s.pending := by
  rw [State.addEvent_eq]

/-- What the handing over of an answer does: it waits, and its writing falls due. -/
theorem State.answer_eq (sheet : SheetIx) (code : AnswerCode) (words : List Word) (s : State) :
    s.answer sheet code words =
      { s with
        shi := { s.shi with answers := s.shi.answers ++ [⟨sheet, code, words, false⟩] }
        due := s.due ++ [.writeAnswer []] } := rfl

end Sys2Proof.Machine
end

