-- ==== Sys2Proof/Laws/Blocks.lean ====
section
/-! SUPPORT. What the shared operations of the blocks can do, said once. -/

namespace Sys2Proof.Machine

/-! ### Carrier states -/

/-- A transmit state either stays, and nothing changes, or takes the new value with CARRIER added. -/
theorem State.setTx_cases (c : Carrier) (st : TxState) (s : State) :
    ((s.cfr.get c).tx = st ∧ s.setTx c st = s)
      ∨ ((s.cfr.get c).tx ≠ st ∧ s.setTx c st = (s.onFramer c fun f => { f with tx := st }).addEvent .carrier) := by
  unfold State.setTx; split <;> simp_all

/-- A receive state either stays, and nothing changes, or takes the new value with CARRIER added. -/
theorem State.setRx_cases (c : Carrier) (st : RxState) (s : State) :
    ((s.cfr.get c).rx = st ∧ s.setRx c st = s)
      ∨ ((s.cfr.get c).rx ≠ st ∧ s.setRx c st = (s.onFramer c fun f => { f with rx := st }).addEvent .carrier) := by
  unfold State.setRx; split <;> simp_all

/-- After a change of the transmit state the framers differ in that state alone. -/
theorem State.setTx_cfr (c : Carrier) (st : TxState) (s : State) :
    (s.setTx c st).cfr = s.cfr.modify c fun f => { f with tx := st } := by
  rcases s.setTx_cases c st with ⟨h, e⟩ | ⟨_, e⟩
  · rw [e]; cases c <;> (simp only [PerCarrier.get] at h; subst h; rfl)
  · rw [e]; simp

/-- After a change of the receive state the framers differ in that state alone. -/
theorem State.setRx_cfr (c : Carrier) (st : RxState) (s : State) :
    (s.setRx c st).cfr = s.cfr.modify c fun f => { f with rx := st } := by
  rcases s.setRx_cases c st with ⟨h, e⟩ | ⟨_, e⟩
  · rw [e]; cases c <;> (simp only [PerCarrier.get] at h; subst h; rfl)
  · rw [e]; simp

/-! ### Cells -/

/-- One cell: refused just when none is free, else the free count falls by one and POOL is added as it falls from 512. -/
theorem State.takeCell_cases (s : State) :
    (s.pqu.free = 0 ∧ s.takeCell = none)
      ∨ (0 < s.pqu.free ∧ ∃ t, s.takeCell = some t ∧ t.pqu = { s.pqu with free := s.pqu.free - 1 }
        ∧ t = { s with pqu := t.pqu, shi := t.shi, outputs := t.outputs }) := by
  unfold State.takeCell
  by_cases h : s.pqu.free = 0
  · left; simp [h]
  · right
    refine ⟨Nat.pos_of_ne_zero h, _, if_neg h, ?_, ?_⟩
    · split
      · rw [State.addEvent_pqu]; rfl
      · rfl
    · split
      · rw [State.addEvent_eq]; rfl
      · rfl

/-- Cells taken one at a time: all are granted just when so many are free, and the free count falls by the cells taken. -/
theorem State.takeCells_spec (n : Nat) (s : State) :
    (s.takeCells n).2 = decide (n ≤ s.pqu.free)
      ∧ (s.takeCells n).1.pqu = { s.pqu with free := s.pqu.free - n }
      ∧ (s.takeCells n).1 = { s with pqu := (s.takeCells n).1.pqu, shi := (s.takeCells n).1.shi,
                                       outputs := (s.takeCells n).1.outputs } := by
  induction n generalizing s with
  | zero => exact ⟨by simp [State.takeCells], rfl, rfl⟩
  | succ n ih =>
    rcases s.takeCell_cases with ⟨h, e⟩ | ⟨h, t, e, hp, ht⟩
    · simp only [State.takeCells, e]
      refine ⟨by simp [h], ?_, trivial⟩
      rw [show s.pqu.free - (n + 1) = s.pqu.free by omega]
    · simp only [State.takeCells, e]
      obtain ⟨h1, h2, h3⟩ := ih t
      refine ⟨?_, ?_, ?_⟩
      · rw [h1, hp]; simp only [decide_eq_decide]; omega
      · rw [h2, hp]; simp only; rw [Nat.sub_sub, Nat.add_comm]
      · rw [h3, ht]

/-- A stream goes to HUNTING; nothing but the pool, its channel's dropped count and the stream itself changes. -/
theorem State.huntStream_frame (t : Tenant) (s : State) :
    s.huntStream t = { s with pqu := (s.huntStream t).pqu, ras := (s.huntStream t).ras }
      ∧ (s.huntStream t).inStream t = .hunting := by
  unfold State.huntStream
  split
  · exact ⟨rfl, by simp [State.inStream, State.onInStream]⟩
  · exact ⟨rfl, by simp [State.inStream, State.onInStream]⟩
  · exact ⟨rfl, by simp [State.inStream, State.onInStream]⟩

/-! ### Accesses to host memory -/

/-- An access leaves the state as it is; it fails when none is left, and no access is made after a failed one. -/
theorem BusRun.access_cases (r : BusRun) :
    r.access.s = r.s ∧ ((r.ok = false ∧ r.access = r) ∨ (r.ok = true ∧ r.left = none ∧ r.access = r)
      ∨ (r.ok = true ∧ r.left = some 0 ∧ r.access = { r with ok := false })
      ∨ (r.ok = true ∧ ∃ n, r.left = some (n + 1) ∧ r.access = { r with left := some n })) := by
  unfold BusRun.access
  rcases r with ⟨s, left, ok⟩
  cases ok
  · simp
  · rcases left with _ | _ | n <;> simp

/-- A write that succeeds changes the host's memory alone; one that fails changes nothing. -/
theorem BusRun.write_state (address : BitVec 64) (bytes : List Byte) (r : BusRun) :
    (r.write address bytes).s = r.s
      ∨ (r.write address bytes).s = r.s.onWorld fun w => { w with mem := writeBytes address bytes w.mem } := by
  unfold BusRun.write BusRun.andThen
  rw [← r.access_cases.1]
  split <;> simp

/-- A write keeps the canonical form of the host's memory. -/
theorem BusRun.write_wf (address : BitVec 64) (bytes : List Byte) (r : BusRun) (h : memoryWf r.s.world.mem = true) :
    memoryWf (r.write address bytes).s.world.mem = true := by
  rcases r.write_state address bytes with e | e
  · rw [e]; exact h
  · rw [e]; exact writeBytes_wf address bytes _ h

/-! ### The clock -/

/-- Groups that fall due change the list of due steps and the count of free values alone. -/
theorem State.groupsFallDue_frame (groups : List (List Instr)) (s : State) :
    s.groupsFallDue groups
      = { s with due := (s.groupsFallDue groups).due, openCount := (s.groupsFallDue groups).openCount } := by
  unfold State.groupsFallDue; split <;> rfl

/-- What a tick does: the counter gains, a start may be reached, and steps fall due. -/
theorem State.tick_frame (s : State) :
    s.tick = { s with tbs := s.tick.tbs, due := s.tick.due, openCount := s.tick.openCount }
      ∧ ∃ b, s.tick.tbs = { s.tbs.tick with starting := b } := by
  unfold State.tick
  refine ⟨?_, s.tbs.starting || s.tbs.startReached (tickUnits s.tbs.rate), ?_⟩ <;>
    · dsimp only
      rw [State.groupsFallDue_frame]
      rfl

/-- The steps that wait for the bus are the only ones due: no other is taken ahead of a tick. -/
theorem State.takeTimed_of_sheetSteps (fuel : Nat) (s : State) (h : ∀ c ∈ s.due, sheetStep c = true) :
    s.takeTimed fuel = s := by
  cases fuel with
  | zero => rfl
  | succ n =>
    have : s.due.find? (fun c => !sheetStep c) = none := by
      rw [List.find?_eq_none]; intro c hc; simp [h c hc]
    simp [State.takeTimed, this]

/-- One tick while only steps on the Sheet Area are due. -/
theorem State.elapse_one (s : State) (h : ∀ c ∈ s.due, sheetStep c = true) : s.elapse 1 = s.tick := by
  simp [State.elapse, State.takeTimed_of_sheetSteps _ s h]

/-- What a read of a register does: it gives the value, and one of EVENTS empties the summary. -/
theorem State.hostRead_eq (be : BitVec 4) (offset : Nat) (s : State) :
    s.hostRead be offset =
      { s with
        shi := { s.shi with events := if offset = 0x0C then 0 else s.shi.events }
        outputs := s.outputs ++ [.registerRead (laneValue be (s.readRegister offset))] } := by
  unfold State.hostRead
  by_cases h : offset = 0x0C <;> simp [h, State.emit, State.clearEvents, State.onShi]

/-! ### Orders -/

/-- An order goes on to `act` in the phases that accept it, and is answered WRONG_PHASE in the others. -/
theorem State.inItsPhases_cases (o : Order) (sheet : SheetIx) (act : State → State) (s : State) :
    (o.takenIn s.phc.phase = true ∧ s.inItsPhases o sheet act = act s)
      ∨ (o.takenIn s.phc.phase = false
        ∧ s.inItsPhases o sheet act = s.answer sheet .wrongPhase (s.refusalWords o)) := by
  unfold State.inItsPhases; split <;> simp_all

/-! ### Purges (R88) -/

/-- The noting of a purge moves the list of purges alone. -/
theorem State.notePurge_eq (t : Tenant) (s : State) :
    ∃ x : Purge, x.tenant = t ∧ x.moment = s.tbs.advance ∧ s.notePurge t = { s with pqu := { s.pqu with
      purges := x :: s.pqu.purges.filter fun y => y.moment == s.tbs.advance } } :=
  ⟨_, rfl, rfl, rfl⟩

@[simp] theorem State.notePurge_channel (t : Tenant) (s : State) (ch : Channel) :
    (s.notePurge t).channel ch = s.channel ch := rfl
@[simp] theorem State.notePurge_port (t : Tenant) (s : State) (p : Port) : (s.notePurge t).port p = s.port p := rfl
@[simp] theorem State.notePurge_contract (t : Tenant) (s : State) (k : Tenant) :
    (s.notePurge t).contract k = s.contract k := rfl

/-- At a moment at which no purge was taken no frame meets one. -/
theorem State.justPurged_none (s : State) (p : Port) (ch : Channel)
    (h : ∀ x ∈ s.pqu.purges, x.moment ≠ s.tbs.advance) : s.justPurged p ch = none := by
  simp only [State.justPurged, Option.map_eq_none_iff, List.find?_eq_none]
  intro x hx
  simp [h x hx]

/-! ### Pulse instants (R136, R137) -/

/-- A due instant is made as its own step; with none due nothing happens. -/
theorem State.makeDueInstant_cases (i : PpsOut) (s : State) :
    (.ppsPulseInstant [] i ∉ s.due ∧ s.makeDueInstant i = s)
      ∨ (.ppsPulseInstant [] i ∈ s.due ∧ s.makeDueInstant i = s.perform (.ppsPulseInstant [] i)) := by
  by_cases h : Instr.ppsPulseInstant [] i ∈ s.due
  · exact .inr ⟨h, by simp only [State.makeDueInstant, State.perform, if_pos h]⟩
  · exact .inl ⟨h, by simp only [State.makeDueInstant, if_neg h]⟩

/-! ### Restart requests -/

/-- A restart request breaks off nothing where no work is in progress, and otherwise the work in progress, after some number
of its accesses. -/
theorem State.breakOff_cases (s : State) :
    (s.workInProgress = none ∧ s.breakOff = s)
      ∨ ∃ work made, s.workInProgress = some work ∧ s.breakOff = s.draw.brokenOff work made := by
  cases h : s.workInProgress with
  | none => exact .inl ⟨rfl, by simp [State.breakOff, h]⟩
  | some work => exact .inr ⟨work, Config.accessesMade s.openCount, rfl, by simp only [State.breakOff, h]⟩

/-- Work in progress is the re-read of a start whose turn has come, or that of a due step on the Sheet Area. -/
theorem State.workInProgress_cases {s : State} {work : SheetWork} (h : s.workInProgress = some work) :
    (work = .reread ∧ s.startIsNext = true ∧ s.workStands .reread = true) ∨ ∃ c ∈ s.due, stepWork c = some work := by
  unfold State.workInProgress at h
  split at h
  · rename_i next
    exact .inl ⟨(Option.some.inj h).symm, by simpa using next⟩
  · exact .inr (List.exists_of_findSome?_eq_some h)

/-- The words a rewrite of a VERDICTS report writes: all sixteen records as they then stand (R162). -/
theorem State.rewriteWords_verdicts (s : State) (e : StandingEntry) (r : Rewrite) (h : e.kind = .verdicts) :
    s.rewriteWords e r = s.tru.verdicts.toList.flatMap verdictWords := by
  simp [State.rewriteWords, State.reportWords, h]

/-- The words a rewrite of any other report writes: those of its superframe start (R17). -/
theorem State.rewriteWords_other (s : State) (e : StandingEntry) (r : Rewrite) (h : e.kind ≠ .verdicts) :
    s.rewriteWords e r = r.words := by
  simp [State.rewriteWords, h]

/-- With no resumption under way nothing is done ahead of a scan's walk. -/
@[simp] theorem BusRun.resumeRest_of_not (r : BusRun) (h : r.s.shi.resuming = false) : r.resumeRest = r := by
  simp [BusRun.resumeRest, h]

/-- The units of the counter after a gain, the seconds counted in. -/
theorem Tbs.gain_total (t : Tbs) (units : Nat) :
    (t.gain units).unitsInSecond = (t.unitsInSecond + units) % unitsPerSecond ∧ (t.gain units).advance = t.advance + units := by
  refine ⟨?_, rfl⟩
  simp only [Tbs.gain, Tbs.unitsInSecond, unitsPerNs]
  omega

end Sys2Proof.Machine
end

