-- ==== Sys2Proof/WellFormed.lean ====
section
/-! DEFINITION. Which commands the outside can send. The checks concern operands only; none of them is needed for a
command of an order, whose parameters the owner itself checks (R190). -/

namespace Sys2Proof

/-- What the outside can do: an address of 64 bits, and a read of a register other than EVENTS, whose read is the command
EVENTS_READ. -/
def Outside.wellFormed : Outside → Bool
  | .registerRead _ offset => offset != 0x0C
  | .ticks _ => true
  | .hostByte address _ => decide (address < 2 ^ 64)
  | .portLink _ _ => true
  | .busMaster _ => true
  | .interrupts _ => true

/-- The length in bytes of a slot at a declared profile: 3 + B + 2 (section 12.6, R48). A declared profile above 7
fixes no length (R193). -/
def slotLengthOk (declared length : Nat) : Bool :=
  match declared with
  | 0 => length == 53
  | 1 => length == 101
  | 2 => length == 149
  | 3 => length == 197
  | 4 => length == 261
  | 5 => length == 325
  | 6 => length == 389
  | 7 => length == 453
  | _ => decide (5 ≤ length)

/-- A delivery as a modem makes it (R33): slots at the declared profile, a report in range. -/
def Delivery.wellFormed (d : Delivery) : Bool :=
  d.slots.toList.all (fun slot => slotLengthOk d.header[4].toNat slot.length)
    && decide (d.snr ≤ 600) && decide (-1000 ≤ d.level) && decide (d.level ≤ 0) && decide (d.fecBlocks ≤ 255)

/-- The offsets of the register window whose writes take effect (section 12.2, R191). -/
def writableOffsets : List Nat := [0x00, 0x04, 0x08, 0x10, 0x18]

/-- What happened outside before a command. -/
def Instr.environment : Instr → List Outside
  | .attentionWrite env _ | .softRestart env | .scan env | .writeAnswer env | .busError env _ _
  | .standingRewrite env _ | .superframeStart env | .drainEnd env _ | .profilePoint env | .planPoint env
  | .delivery env _ _ | .miss env _ | .carrierBWaitExpiry env | .arrival env _ _ _ | .aging env
  | .halfSecondMark env | .wholeSecondMark env | .timeCheckCompletion env | .holdoverLimitExpiry env
  | .gnssEdge env | .ppsPulseInstant env _ | .ppsPulseEnd env _ | .sweepSample env _ | .noLoop env
  | .berDurationEnd env | .delayCalTimeout env => env
  | .powerOnReset _ | .sheetBaseHiWrite _ _ | .sheetBaseLoWrite _ _ | .eventsRead _ | .eventMaskWrite _ _
  | .restartWrite _ _ | .registerWriteIgnored _ _ | .phase _ _ | .carrierStart _ _ | .carrierStop _ _
  | .profileSet _ _ | .portSet _ _ | .channelSet _ _ | .tenantSet _ _ | .tenantRetire _ _ | .timingSet _ _
  | .ppsSet _ _ | .gnssLabel _ _ | .verdictSet _ _ | .test _ _ | .testStop _ _ | .standing _ _ | .read _ _ => []

/-- The operands of a command are ones the outside can give it. -/
def Instr.wellFormed (i : Instr) : Bool :=
  i.environment.all Outside.wellFormed &&
  match i with
  | .registerWriteIgnored offset _ => !(writableOffsets.contains offset)
  | .delivery _ _ d => d.wellFormed
  | .phase _ params | .carrierStart _ params | .carrierStop _ params | .profileSet _ params | .portSet _ params
  | .channelSet _ params | .tenantSet _ params | .tenantRetire _ params | .timingSet _ params | .ppsSet _ params
  | .gnssLabel _ params | .verdictSet _ params | .test _ params | .testStop _ params | .standing _ params
  | .read _ params => decide (params.length ≤ 32)
  | .powerOnReset _ | .sheetBaseHiWrite _ _ | .sheetBaseLoWrite _ _ | .attentionWrite _ _ | .eventsRead _
  | .eventMaskWrite _ _ | .restartWrite _ _ | .softRestart _ | .scan _ | .writeAnswer _ | .busError _ _ _
  | .standingRewrite _ _ | .superframeStart _ | .drainEnd _ _ | .profilePoint _ | .planPoint _ | .miss _ _
  | .carrierBWaitExpiry _ | .arrival _ _ _ _ | .aging _ | .halfSecondMark _ | .wholeSecondMark _
  | .timeCheckCompletion _ | .holdoverLimitExpiry _ | .gnssEdge _ | .ppsPulseInstant _ _ | .ppsPulseEnd _ _
  | .sweepSample _ _ | .noLoop _ | .berDurationEnd _ | .delayCalTimeout _ => true

end Sys2Proof
end

