-- ==== Sys2Proof/Tests/Slice0.lean ====
section
/-! SUPPORT. The model's own tests, and for each statement with hypotheses a state and operands that meet them. -/

set_option maxRecDepth 100000

namespace Sys2Proof.Tests

-- One test after another: a thread for each test that waits for the kernel would ask for more memory than a check has.
set_option Elab.async false

open Sys2Proof Sys2Proof.Machine

/-! ### Small states -/

/-- The state a command leaves. -/
def after (c : Instr) (s : State) : State :=
  match exec c s with
  | .next t => t
  | .fault _ => s
  | .refused _ => s

def reset : State := State.reset
def inPhase (p : Phase) (s : State) : State := { s with phc := { s.phc with phase := p } }
def withBase (b : BitVec 64) (s : State) : State := { s with shi := { s.shi with base := b } }
def withTx (a b : TxState) (s : State) : State :=
  { s with cfr := { a := { s.cfr.a with tx := a }, b := { s.cfr.b with tx := b } } }
def withRx (a b : RxState) (s : State) : State :=
  { s with cfr := { a := { s.cfr.a with rx := a }, b := { s.cfr.b with rx := b } } }
def withServo (st : TimingState) (c : TimingClass) (s : State) : State :=
  { s with tsv := { s.tsv with state := st, timingClass := c } }
def atSuperframe (n : Word) (s : State) : State := { s with tbs := { s.tbs with superframe := n } }
def withContract (t : Tenant) (k : Contract) : State → State := State.onContract t fun _ => k
def withTest (r : Running) (s : State) : State := { s with tru := { s.tru with running := some r } }

/-- Host memory in which byte 0 of sheet `i` at base 1000h is `state`, with a code and a count behind it. -/
def sheetMemory (i : SheetIx) (state code count : Byte) : List Host.Cell :=
  writeBytes (sheetAddress 0x1000 i 0) [state, code, count] []

def withMemory (mem : List Host.Cell) (s : State) : State := { s with world := { s.world with mem := mem } }

/-- A header of far superframe `far`, far state `st` and first tenant's demand `demand`. -/
def header (far st demand : Nat) : Vector Byte 62 :=
  let b := bigEndian 4 far ++ [0, BitVec.ofNat 8 st, 0, 0] ++ bigEndian 2 400 ++ bigEndian 4 0 ++ bigEndian 2 demand
  Vector.ofFn fun i => b[i.val]?.getD 0

/-- A delivery with empty slots. -/
def delivery (far st : Nat) (good : Bool) : Delivery where
  header := header far st 100
  slots := Vector.replicate 128 []
  snr := 400
  level := -500
  fecBlocks := 0
  headerGood := good

/-! ### WellFormed refuses what the outside cannot give -/

theorem test_wellFormed_registerRead :
    (Instr.aging [.registerRead 15 0x10]).wellFormed = true ∧ (Instr.aging [.registerRead 15 0x0C]).wellFormed = false := by
  decide
theorem test_wellFormed_hostByte :
    (Instr.scan [.hostByte (2 ^ 64 - 1) 1]).wellFormed = true ∧ (Instr.scan [.hostByte (2 ^ 64) 1]).wellFormed = false := by
  decide
theorem test_wellFormed_ignored : (Instr.registerWriteIgnored 0x14 1).wellFormed = true
    ∧ (Instr.registerWriteIgnored 0x18 1).wellFormed = false := by decide
theorem test_wellFormed_params : (Instr.read 0 (List.replicate 32 0)).wellFormed = true
    ∧ (Instr.read 0 (List.replicate 33 0)).wellFormed = false := by decide
theorem test_wellFormed_slots : (delivery 1 2 true).wellFormed = false
    ∧ ({ delivery 1 2 true with slots := Vector.replicate 128 (List.replicate 53 0) }).wellFormed = true := by
  decide +kernel
theorem test_wellFormed_report :
    let d : Delivery := { delivery 1 2 true with slots := Vector.replicate 128 (List.replicate 53 0) }
    ({ d with snr := 601 }).wellFormed = false ∧ ({ d with level := 1 }).wellFormed = false
      ∧ ({ d with level := -1001 }).wellFormed = false ∧ ({ d with fecBlocks := 256 }).wellFormed = false := by
  decide +kernel

/-! ### No row has bits -/

theorem test_decode_none : decodeTableWord 8 0 = none ∧ decodeTableWord 32 5 = none := by decide

/-! ### Worked cases of the manual -/

/-- The check of section 12.6 over the bytes of "123456789": the published check value of that generator and start value
(PRESUMED: from outside the spec, which works no check). -/
theorem test_check_29B1 : checkOf [0x31, 0x32, 0x33, 0x34, 0x35, 0x36, 0x37, 0x38, 0x39] = 0x29B1 := by decide +kernel

/-- The tenants of section 6.6. -/
def tenants66 : List Participant :=
  [⟨0, 20000, 4, 60000, 50000, 100, 0, false⟩, ⟨1, 30000, 2, 40000, 35000, 0, 0, false⟩,
    ⟨2, 15000, 1, 15000, 9000, 0, 0, false⟩, ⟨3, 0, 1, 30000, 12000, 50, 0, false⟩]

/-- Section 6.6: the grants of both carriers in service. -/
theorem test_grants_66 : (grants 65536 tenants66).map (·.grant) = [23734, 31867, 9000, 933] := by decide +kernel

/-- Section 6.6: targets, debts and slots in rotation order 2, 3, 0, 1. -/
theorem test_slots_66 :
    ((assignSlots (rotation 2 (grants 65536 tenants66))
        (List.replicate 128 (Carrier.a, 320) ++ List.replicate 128 (Carrier.b, 192))).1.map fun x =>
      (x.tenant, x.target, x.debt, x.slots.countP (· == Carrier.a), x.slots.countP (· == Carrier.b)))
    = [((2 : Tenant), 9000, 280, 29, 0), (3, 883, 77, 3, 0), (0, 23634, 46, 74, 0), (1, 31867, 0, 22, 128)] := by
  decide +kernel

/-- Section 6.7: commitments scaled to one carrier at P1, with the pointer at 5. -/
theorem test_rain_67 :
    (grants 12288 tenants66).map (·.grant) = [4165, 6248, 1874, 0]
    ∧ ((assignSlots (rotation 5 (grants 12288 tenants66)) (List.replicate 128 (Carrier.a, 96))).1.map fun x =>
      (x.tenant, x.debt, x.slots.length)) = [((0 : Tenant), 63, 43), (1, 88, 66), (2, 0, 19), (3, 50, 0)] := by
  decide +kernel

/-- The tenants of section 6.8. -/
def tenants68 : List Participant :=
  [⟨0, 10000, 3, 114688, 16000, 0, 0, false⟩, ⟨1, 5000, 1, 8000, 12800, 200, 0, false⟩,
    ⟨4, 0, 2, 114688, 6400, 30, 0, false⟩, ⟨5, 4000, 5, 20000, 0, 120, 0, false⟩]

/-- Section 6.8: a capped peak, rounds, and the run list beside a loop test of 8 slots. -/
theorem test_capped_68 :
    let (assigned, left) := assignSlots (rotation 4 (grants 30720 tenants68)) (List.replicate 120 (Carrier.a, 256))
    (grants 30720 tenants68).map (·.grant) = [16000, 8000, 6400, 0]
      ∧ assigned.map (fun x => (x.tenant, x.debt)) = [((4 : Tenant), 30), (5, 0), (0, 128), (1, 136)]
      ∧ (Standing.opened 8 256).runs (dataOwners .a assigned left)
        = some [⟨.tenant 4, 25⟩, ⟨.tenant 0, 63⟩, ⟨.tenant 1, 31⟩, ⟨.idle, 1⟩, ⟨.test, 8⟩] := by
  decide +kernel

/-- Section 9.10: the update of a sample of 600 ns, and of 40,000 ns clamped to the step threshold. -/
theorem test_update_910 :
    rateUpdate ServoParams.reset 1200000 600 = (-1537500, 1237500)
    ∧ rateUpdate ServoParams.reset 1200000 40000 = (-1762500, 1262500) := by decide +kernel

/-- Section 9.11: updates in ACQUIRING. -/
theorem test_updates_911 :
    rateUpdate ServoParams.reset 0 420 = (-236250, 26250) ∧ rateUpdate ServoParams.reset 26250 310 = (-200625, 45625)
    ∧ rateUpdate ServoParams.reset 45625 (-60) = (-11875, 41875) := by decide +kernel

/-- Section 8.8: one second of local ticks at the rate −1,537,500 ppt. -/
theorem test_second_88 :
    let t := ({ Tbs.reset with sec := 300 } : Tbs).gain (125000000 * tickUnits (-1537500))
    (t.sec, t.ns, t.fraction, t.residue) = ((300 : Seconds), 999998462, 32768, 0) := by decide +kernel

/-- Section 8.9: a step of +400,000 ns carries into the seconds, one of −300,000,000 ns borrows from them. -/
theorem test_step_89 :
    let t := ({ Tbs.reset with sec := 200, ns := 999800000 } : Tbs).step 400000
    let u := ({ Tbs.reset with sec := 202, ns := 100000000 } : Tbs).step (-300000000)
    (t.sec, t.ns) = ((201 : Seconds), 200000) ∧ (u.sec, u.ns) = ((201 : Seconds), 800000000) := by decide +kernel

/-- Section 10.12: eight pairs of ten seconds, mean −150 ns, within a limit of 200 ns. -/
theorem test_mean_1012 :
    let d : CheckData := { begun := true, counted := 10, pairs := 8, sum := -1200, least := -210, greatest := -100 }
    d.mean 0 = -150 ∧ d.passes 10 200 = true ∧ d.passes 10 149 = false := by decide +kernel

/-- Section 10.11: 412 errors in 756,000,000 bits against a limit of 1,000. -/
theorem test_ber_1011 :
    let d : BerData := { reference := 0, pattern := 0, sent := [], superframes := 2000, bits := 756000000, errors := 412,
                         lost := 5488 }
    d.passes 1000 = true ∧ d.passes 544 = false := by decide +kernel

/-- Section 4.8: arrivals at a channel near its limit and a pool near its reserve. -/
theorem test_arrivals_48 :
    let ch : ChannelEntry := { ChannelEntry.reset with owner := some 1, limit := 2 }
    let s : State := ((reset.onPort 2 fun p => { p with tenant := some 1 }).onChannel 10 fun _ => ch).onContract 1
      fun k => { k with state := .admitted }
    let fate := fun (free tag length : Nat) =>
      (s.onPqu fun q => { q with free := free }).arrivalFate 2 (BitVec.ofNat 8 (128 + tag) :: List.replicate (length - 1) 0) true
    fate 257 10 64 = .admitted 10 ∧ fate 256 10 64 = .pool 10 ∧ fate 8192 10 129 = .full 10 ∧ fate 8192 7 200 = .refused 1
      ∧ fate 8192 63 200 = .malformed := by decide +kernel

/-- Thresholds outside their ranges are set to the nearer end, and down below up by 10 (R51). -/
theorem test_thresholds_R51 :
    let e : ProfileEntry := { payload := 96, up := 5, down := 700, verdict := none, delay := none }
    (clampThresholds e).up = 10 ∧ (clampThresholds e).down = 0 := by decide

/-- Section 2.11 (2): the first four deliveries to a STARTING carrier. -/
theorem test_bringUp_211 :
    let s0 := withTx .starting .off (inPhase .align reset)
    let s1 := after (.delivery [] .a (delivery 880 1 false)) s0
    let s2 := after (.delivery [] .a (delivery 881 1 true)) s1
    let s3 := after (.delivery [] .a (delivery 882 1 true)) s2
    let s4 := after (.delivery [] .a (delivery 883 1 true)) s3
    (s1.cfr.a.rx, s1.cfr.a.headerErrors) = (RxState.hunt, 1)
      ∧ (s2.cfr.a.rx, s2.cfr.a.run, s2.cfr.a.expected) = (RxState.verify, 1, 882) ∧ (s3.cfr.a.run, s3.cfr.a.rx) = (2, .verify)
      ∧ (s4.cfr.a.rx, s4.cfr.a.tx, s4.cfr.a.expected, s4.cfr.a.farSync) = (RxState.sync, TxState.running, 884, none) := by
  decide +kernel

/-- Section 2.11 (5): two misses in SYNC, then the header expected. -/
theorem test_misses_211 :
    let s0 := (withRx .sync .hunt (withTx .running .off reset)).onFramer .a fun f => { f with expected := 892, missAt := some 0 }
    let s1 := after (.miss [] .a) s0
    let s2 := after (.miss [] .a) { s1 with tbs := { s1.tbs with advance := nsUnits 1000000 } }
    let s3 := after (.delivery [] .a (delivery 894 2 true)) s2
    (s1.cfr.a.rx, s1.cfr.a.misses, s1.cfr.a.expected) = (RxState.flywheel, 1, 893)
      ∧ (s2.cfr.a.misses, s2.cfr.a.expected, s2.cfr.a.headerErrors) = (2, 894, 2)
      ∧ (s3.cfr.a.rx, s3.cfr.a.expected) = (RxState.sync, 895) := by decide +kernel

/-- Section 11.6 (6): gate open for a candidate flag that is UNSET; the flag is not stored. -/
theorem test_gate_116 :
    let s := inPhase .commission (withServo .locked .phase reset)
    let t := after (.phase 3 [3, 0]) s
    (t.phc.phase, t.phc.gateFlag, t.shi.answers.map (·.code)) = (Phase.commission, none, [.notReady]) := by decide +kernel

/-- Section 11.6: WIND_DOWN of a site without tenants returns to SETUP and drains the carrier. -/
theorem test_windDown_116 :
    let t := after (.phase 3 [4]) (withTx .running .off (inPhase .service reset))
    (t.phc.phase, t.cfr.a.tx, t.cfr.a.lastPlanned) = (Phase.setup, TxState.draining, 0) := by decide +kernel

/-- A scan takes a FILLED sheet, writes TAKEN, and checks its code (R8, R11). -/
theorem test_scan_unknown :
    let t := after (.scan []) (withMemory (sheetMemory 5 1 17 0) (withBase 0x1000 reset))
    t.hostByteAt (sheetAddress 0x1000 5 0) = 2 ∧ t.shi.lastTaken = 5 ∧ t.shi.answers.map (·.code) = [.unknownOrder]
      ∧ memoryWf t.world.mem = true := by decide +kernel

/-- Two orders of one scan: PHASE to WIND_DOWN, then TENANT_SET, which that phase does not accept (R10, R11). -/
theorem test_scan_windDown :
    let mem := writeBytes (sheetAddress 0x1000 0 0) [1, 1, 1, 0, 0, 0, 0, 0, 4] (writeBytes (sheetAddress 0x1000 1 0)
      [1, 7, 1, 0, 0, 0, 0, 0, 6] [])
    let s := (inPhase .service (withMemory mem (withBase 0x1000 reset))).onContract 2 fun k => { k with state := .admitted }
    let t := after (.scan []) (s.onChannel 5 fun e => { e with owner := some 2, queue := [⟨List.replicate 64 0, 0, 0⟩] })
    t.phc.phase = .windDown ∧ t.shi.answers.map (·.code) = [.done, .wrongPhase] ∧ (t.contract 6).state = .vacant := by
  decide +kernel

/-- A sheet found overwritten keeps its state and loses its answer (R14). -/
theorem test_answer_discarded :
    let s : State :=
      { withMemory (sheetMemory 3 1 8 0) (withBase 0x1000 reset) with
        shi := { (withBase 0x1000 reset).shi with held := [⟨3, 0x1000, 8, []⟩], answers := [⟨3, .done, [5], false⟩] } }
    let t := after (.writeAnswer []) s
    t.hostByteAt (sheetAddress 0x1000 3 0) = 1 ∧ t.hostByteAt (sheetAddress 0x1000 3 137) = 1 ∧ t.shi.held = []
      ∧ t.shi.events = 0 := by decide +kernel

/-- A tick that brings the miss timer to its end: the miss falls due, and the next tick is taken after it (R34). -/
theorem test_ticks_miss :
    let s := (withRx .sync .hunt (withTx .running .off reset)).onFramer .a fun f => { f with missAt := some 1 }
    ((s.elapse 1).due, (s.elapse 2).due, (s.elapse 2).cfr.a.rx) = ([.miss [] .a], [], RxState.flywheel) := by
  decide +kernel

/-! ### The hypotheses of the statements can be met

For each statement with hypotheses: states and operands that meet them, clause by clause, at the ends of their ranges. -/

/-- StepTakesTheFrontCommand. -/
theorem wit_stepTakesTheFrontCommand :
    ({ reset with pending := [.eventsRead 15, .scan []] } : State).pending = .eventsRead 15 :: [.scan []] := rfl

/-- StepOnAnEmptyQueue. -/
theorem wit_stepOnAnEmptyQueue : reset.pending = [] ∧ reset.due = []
    ∧ ({ reset with due := [.planPoint []] } : State).pending = []
    ∧ ({ reset with due := [.planPoint []] } : State).due = .planPoint [] :: [] := by decide

/-- BaseAndIgnoredWrites: SETUP with and without a held half, and each other phase. -/
theorem wit_baseAndIgnoredWrites : reset.phc.phase = .setup ∧ reset.shi.pendingHi = none
    ∧ (after (.sheetBaseHiWrite 15 7) reset).shi.pendingHi = some 7
    ∧ (after (.sheetBaseHiWrite 15 7) reset).phc.phase = .setup
    ∧ ∀ p ∈ [Phase.align, .commission, .service, .windDown], (inPhase p reset).phc.phase ≠ .setup := by decide

/-- AttentionRequestsAScan: each of its cases. -/
theorem wit_attention :
    let e := fun s : State => s.enter [] (.attentionWrite [] 1)
    let s := withBase 0x1000 reset
    let scanning : State := { s with shi := { s.shi with scan := some 0x1000 } }
    let faulty : State := { s with shi := { s.shi with fault := true } }
    (e { s with shi := { s.shi with restarting := true } }).shi.restarting = true
      ∧ (e reset).shi.restarting = false ∧ (e reset).shi.fault = false ∧ (e reset).shi.base = 0
      ∧ (e reset).shi.scan = none ∧ (e s).shi.base ≠ 0 ∧ (e s).shi.scan = none ∧ (e s).shi.fault = false
      ∧ (e scanning).shi.restarting = false ∧ (e scanning).shi.fault = false ∧ (e scanning).shi.scan ≠ none
      ∧ (e faulty).shi.restarting = false ∧ (e faulty).shi.fault = true := by decide

/-- EventRegisters: a read of another register; a write that opens the masked summary, and one that does not. -/
theorem wit_eventRegisters :
    let s : State := { reset with shi := { reset.shi with events := 0x80 } }
    0x10 ≠ 0x0C ∧ (s.shi.events &&& s.shi.mask &&& 0xFF = 0 ∧ s.shi.events &&& laneValue 15 0x80 &&& 0xFF ≠ 0
      ∧ s.world.interrupts = true ∧ s.world.busMaster = true)
      ∧ s.shi.events &&& laneValue 14 0x80 &&& 0xFF = 0 := by decide

/-- SoftRestartLeaves. -/
theorem wit_softRestart : (reset.enter [] (.softRestart [])).shi.restarting = false
    ∧ ((after (.restartWrite 15 1) reset).enter [] (.softRestart [])).shi.restarting = true
    ∧ (withServo .locked .phase reset).tsv.state = .locked ∧ (withServo .locked .phase reset).tsv.history = []
    ∧ ({ (withServo .acquiring .none reset).tsv with history := [7] }).history ≠ [] ∧ reset.tsv.state = .freerun := by decide

/-- A resumption under way: the answer of sheet 3 waits, and the scan's base is zero or 1000h. -/
def resuming (base : BitVec 64) : State :=
  { withMemory (sheetMemory 3 2 8 0) (withBase base reset) with
    shi := { (withBase base reset).shi with
      held := [⟨3, 0x1000, 8, []⟩], answers := [⟨3, .done, [5], false⟩], resuming := true } }

/-- The three steps of R21: the answer falls due and then the scan; a scan taken first writes the answer all the same. -/
theorem test_resumption :
    let s : State := { resuming 0x1000 with shi := { (resuming 0x1000).shi with fault := true, resuming := false } }
    let t := after (.attentionWrite [] 1) s
    let u := after (.scan []) t
    (t.shi.fault, t.shi.resuming, t.due) = (false, true, [.writeAnswer [], .scan []])
      ∧ (u.shi.resuming, u.shi.answers, u.hostByteAt (sheetAddress 0x1000 3 0)) = (false, [], (3 : Byte)) := by decide +kernel

/-- ScanTakesEveryFilledSheet, with sheet 31 FILLED, and with none; a resumption at base zero and at 1000h. -/
theorem wit_scan :
    let e := (withMemory (sheetMemory 31 1 7 0) (withBase 0x1000 reset)).enter [] (.scan [])
    let r := (resuming 0x1000).enter [] (.scan [])
    r.shi.resuming = true ∧ (∀ a ∈ r.shi.answers, a.words.length ≤ 92) ∧ r.shi.held = [⟨3, 0x1000, 8, []⟩] ∧ r.scanBase = 0x1000
      ∧ (∀ i : SheetIx, r.hostByteAt (sheetAddress 0x1000 i 0) ≠ 1)
      ∧ ((resuming 0).enter [] (.scan [])).scanBase = 0 ∧ e.shi.resuming = false
      ∧ e.shi.fault = false ∧ e.shi.restarting = false ∧ e.scanBase ≠ 0 ∧ e.world.busMaster = true
      ∧ memoryWf e.world.mem = true ∧ e.hostByteAt (sheetAddress e.scanBase 31 0) = 1
      ∧ ∀ i : SheetIx, ((withBase 0x1000 reset).enter [] (.scan [])).hostByteAt (sheetAddress 0x1000 i 0) ≠ 1 := by
  decide +kernel

/-- A frame of a purged tenant: not admitted at the moment of the purge, unassigned a tick later (R88, R74). -/
theorem test_purge_moment_R88 :
    let s : State := ((reset.onPort 2 fun p => { p with tenant := some 3 }).onChannel 10
      fun ch => { ch with owner := some 3 }).onContract 3 fun k => { k with state := .admitted }
    let frame : List Byte := BitVec.ofNat 8 (128 + 10) :: List.replicate 63 0
    let t := after (.tenantRetire 7 [3, 1]) s
    let now := after (.arrival [] 2 frame true) t
    let later := after (.arrival [.ticks 1] 2 frame true) t
    (now.pqu.notAdmitted[3], (now.port 2).unassigned) = (1, 0)
      ∧ (later.pqu.notAdmitted[3], (later.port 2).unassigned) = (0, 1) := by decide +kernel

/-- OrdersAreChecked: unknown codes; code 2 refused in SETUP; a count of 33 and one short of the naming part; and an order
at each end of its counts. -/
theorem wit_ordersAreChecked :
    ((0 : Byte) = 0 ∨ 16 < (0 : Byte).toNat) ∧ (17 : Byte).toNat > 16 ∧ (2 : Byte).toNat = 1 + 1
      ∧ reset.phc.phase ∉ [Phase.align, .commission, .service] ∧ (1 : Byte).toNat = 0 + 1 ∧ (16 : Byte).toNat = 15 + 1
      ∧ reset.phc.phase ∈ [Phase.setup, .align, .commission, .service, .windDown] ∧ 32 < 33 ∧ 1 < 2 ∧ 2 ≤ 2 ∧ 32 ≤ 32
      ∧ Order.command .read 3 [1, 2] ∉ reset.due := by decide

/-- AnswerIsWritten: an answer waits for the held sheet 3, found TAKEN. -/
def answering : State :=
  { withMemory (sheetMemory 3 2 8 0) (withBase 0x1000 reset) with
    shi := { (withBase 0x1000 reset).shi with held := [⟨3, 0x1000, 8, []⟩], answers := [⟨3, .done, [5], false⟩] } }

/-- The same with an accepted STANDING order in the list, and its sheet found TAKEN or `found`. -/
def answeringStanding (found : Byte) : State :=
  { withMemory (sheetMemory 3 found 15 2) (withBase 0x1000 reset) with
    shi := { (withBase 0x1000 reset).shi with
      held := [⟨3, 0x1000, 15, [3, 1]⟩], answers := [⟨3, .done, [5], true⟩],
      standing := [⟨3, 0x1000, .timing, 1, 0, 0, 0⟩] } }

theorem wit_answerIsWritten :
    let e := answering.enter [] (.writeAnswer [])
    e.shi.fault = false ∧ e.shi.restarting = false ∧ e.world.busMaster = true ∧ memoryWf e.world.mem = true
      ∧ e.shi.answers = ⟨3, .done, [5], false⟩ :: [] ∧ e.heldEntry 3 = some ⟨3, 0x1000, 8, []⟩
      ∧ e.hostByteAt (sheetAddress 0x1000 3 0) = 2 := by decide +kernel

/-- AnswerIsWritten, of a STANDING order: its sheet found TAKEN, and found BLANK. -/
theorem wit_standingAnswer :
    let e := fun found => (answeringStanding found).enter [] (.writeAnswer [])
    (e 2).shi.fault = false ∧ (e 2).shi.restarting = false ∧ (e 2).world.busMaster = true
      ∧ memoryWf (e 2).world.mem = true ∧ (e 2).shi.answers = ⟨3, .done, [5], true⟩ :: []
      ∧ (e 2).heldEntry 3 = some ⟨3, 0x1000, 15, [3, 1]⟩ ∧ ((e 2).standingEntry 3).isSome = true
      ∧ (e 2).hostByteAt (sheetAddress 0x1000 3 0) = 2 ∧ (e 0).hostByteAt (sheetAddress 0x1000 3 0) = 0 := by decide +kernel

/-- BusErrorRaisesTheFault: work that stands and work that does not, and a scan without a FILLED sheet. -/
theorem wit_busError : (reset.enter [] (.busError [] .scan 0)).workStands .scan = false
    ∧ ((withBase 0x1000 reset).enter [] (.busError [] .scan 0)).workStands .scan = true
    ∧ (answering.enter [] (.busError [] .answer 1)).workStands .answer = true ∧ SheetWork.answer ≠ .scan
    ∧ (resuming 0).workStands .scan = true ∧ (resuming 0).workStands .resume = true
    ∧ (withBase 0x1000 reset).shi.resuming = false ∧ ∀ i : SheetIx, (withBase 0x1000 reset).hostByteAt (sheetAddress 0x1000 i 0) ≠ 1 := by decide +kernel

/-- A standing report whose rewrite waits. -/
def reporting : State :=
  { atSuperframe 1 (withBase 0x1000 reset) with
    shi := { (withBase 0x1000 reset).shi with
      standing := [⟨9, 0x1000, .timing, 1, 0, 0, 4⟩], rewrites := [⟨9, [1, 2]⟩] } }

/-- StandingReportIsRewritten: none waits; one waits behind a scan; one is made, and one of VERDICTS can be. -/
theorem wit_standingRewrite :
    let e := reporting.enter [] (.standingRewrite [] 9)
    (∀ r ∈ reset.shi.rewrites, r.sheet ≠ 9)
      ∧ e.shi.fault = false ∧ e.shi.restarting = false ∧ e.shi.base ≠ 0 ∧ e.world.busMaster = true
      ∧ memoryWf e.world.mem = true ∧ e.standingEntry 9 = some ⟨9, 0x1000, .timing, 1, 0, 0, 4⟩
      ∧ e.shi.rewrites.find? (fun r => r.sheet == 9) = some ⟨9, [1, 2]⟩ ∧ ([1, 2] : List Word).length ≤ 92
      ∧ e.shi.scan = none ∧ ({ e.shi with scan := some 0x1000 }).scan ≠ none
      ∧ (e.tru.verdicts.toList.flatMap verdictWords).length ≤ 92 ∧ ReportKind.timing ≠ .verdicts := by decide +kernel

/-- A VERDICTS report shows what the scan of its superframe start sets (R7, R162): VERDICT_SET of V3 to PASS on sheet 3, the
report on sheet 9. Values and layout are those of sections 12.1 and 12.4. -/
theorem test_verdictsRewrite_R162 :
    let mem := writeBytes (sheetAddress 0x1000 3 8) (wordBytes 3 ++ wordBytes 1)
      (writeBytes (sheetAddress 0x1000 9 0) [4] (sheetMemory 3 1 12 2))
    let s := withMemory mem ((withBase 0x1000 reset).onShi fun h => { h with standing := [⟨9, 0x1000, .verdicts, 1, 0, 0, 4⟩] })
    let t := after (.standingRewrite [] 9) (after (.scan []) (after (.superframeStart []) s))
    let place (n : Nat) := sheetAddress 0x1000 9 n
    readWords t.world.mem (place (144 + 8 * 3)) 2 = [0x0601, 1] ∧ readWords t.world.mem (place 144) 2 = [0, 0]
      ∧ readWord t.world.mem (place 140) = 6 ∧ t.hostByteAt (place 137) = 32 := by decide +kernel

/-- RestartWriteRequests: a request, a write of another value, work in progress, and each kind of work that can be broken
off, after the fewest and the most accesses spoken of. -/
theorem wit_restartWrite : laneValue 15 1 = 1 ∧ reset.shi.restarting = false ∧ laneValue 14 1 ≠ 1
    ∧ reset.workInProgress = none ∧ ({ reset with due := [.scan []] } : State).workInProgress = some .scan
    ∧ reporting.shi.restarting = false ∧ reporting.shi.fault = false ∧ reporting.shi.base ≠ 0 ∧ reporting.shi.scan = none
    ∧ reporting.world.busMaster = true ∧ memoryWf reporting.world.mem = true
    ∧ reporting.standingEntry 9 = some ⟨9, 0x1000, .timing, 1, 0, 0, 4⟩
    ∧ reporting.shi.rewrites.find? (fun r => r.sheet == 9) = some ⟨9, [1, 2]⟩ ∧ ([1, 2] : List Word).length ≤ 92
    ∧ reset.shi.resuming = false ∧ 0 ≤ 2 ∧ 2 ≤ 2 ∧ 0 ≤ 1 ∧ 1 ≤ 1 ∧ 1 ≤ 3 ∧ 3 ≤ 3 := by decide +kernel

/-- A superframe start whose turn has come, with a held TEST sheet that a write to RESTART finds not read again (R4, R7). -/
theorem test_restart_breaks_reread :
    let s : State := { withBase 0x1000 reset with
      shi := { (withBase 0x1000 reset).shi with held := [⟨4, 0x1000, 13, []⟩] }, due := [.superframeStart [], .scan []] }
    s.workInProgress = some .reread ∧ (s.brokenOff .reread 0).shi.held.map (·.sheet) = [4]
      ∧ (s.brokenOff .reread 1).shi.held = [] := by decide +kernel

/-- A rewrite broken off leaves the edition odd and the kept count as it was (R4, R17). -/
theorem test_restart_breaks_rewrite :
    let t := reporting.brokenOff (.rewrite 9) 2
    readWord t.world.mem (sheetAddress 0x1000 9 140) = 5 ∧ t.shi.standing.map (·.edition) = [4]
      ∧ t.shi.fault = false := by decide +kernel

/-- Carrier A in SYNC with far sync reported on it. -/
def linked : State :=
  (withRx .sync .hunt (withTx .running .off reset)).onFramer .a fun f => { f with farSync := some 0 }

/-- A DELAY_CAL of carrier A at P2 with flag 3, started at superframe 0. -/
def calibrating : Running :=
  { record := ⟨2, .delayCal .a 2 (some 3) 100, false⟩, start := 0, acknowledged := false,
    data := .delay { countP := 0, leastP := none, count0 := 0, least0 := none, passedOver := 0, result := none,
                     lastStep := none } }

/-- PhaseOrders, into WIND_DOWN and SETUP: no tenant; one ADMITTED with a frame queued; one RETIRING. -/
theorem wit_windDownOrders :
    let s := fun (p : Phase) (x : TenantState) => ((inPhase p reset).onContract 2 fun k => { k with state := x }).onChannel 5
      fun e => { e with owner := some 2, queue := [⟨List.replicate 64 0, 0, 0⟩] }
    decodePhase 4 = some .windDown ∧ decodePhase 0 = some .setup ∧ (inPhase .align reset).phc.phase = .align
      ∧ (∀ k ∈ allTenants, ((inPhase .service reset).contract k).state = .vacant)
      ∧ (s .service .admitted).phc.phase = .service ∧ ((s .service .admitted).contract 2).state = .admitted
      ∧ ((s .service .admitted).channel 5).owner = some 2 ∧ ((s .service .admitted).channel 5).queue ≠ []
      ∧ (s .windDown .retiring).phc.phase = .windDown ∧ ((s .windDown .retiring).contract 2).state = .retiring := by decide +kernel

/-- PhaseOrders: a wrong target, ALIGN without a link, COMMISSION under a test and with class NONE, and the moves up. -/
theorem wit_phaseOrders :
    decodePhase 3 = some .service ∧ decodePhase 2 = some .commission ∧ decodePhase 1 = some .align
      ∧ Phase.service ≠ reset.phc.phase
      ∧ (∀ c : Carrier, c ∈ [Carrier.a, .b] → ((inPhase .align reset).cfr.get c).rx ≠ .sync)
      ∧ (withTest calibrating (inPhase .commission reset)).tru.running = some calibrating
      ∧ (calibrating.kind = .loopBerOut ∨ calibrating.kind = .delayCal)
      ∧ (inPhase .commission reset).tru.running = none ∧ (inPhase .commission reset).tsv.timingClass = .none
      ∧ reset.phc.phase = .setup ∧ (inPhase .align linked).fitted .a = true
      ∧ ((inPhase .align linked).cfr.get .a).rx = .sync ∧ (inPhase .align linked).farSyncReported .a = true := by decide

/-- EntryToServiceAdmits. -/
theorem wit_entryToService :
    let e := (inPhase .commission (withServo .locked .phase reset)).settle (.phase 0 [3])
    e.phc.phase = .commission ∧ e.phc.gateFlag = none ∧ e.tsv.timingClass ≠ .none ∧ e.tru.running = none := by decide

/-- CarrierStartByTransmitState and CarrierStopByTransmitState: each transmit state; the phases; carrier B not fitted. -/
theorem wit_carrierOrders :
    reset.phc.phase = .setup ∧ (inPhase .windDown reset).phc.phase = .windDown ∧ (inPhase .align reset).phc.phase ≠ .setup
      ∧ (inPhase .align reset).phc.phase ≠ .windDown
      ∧ (∀ x ∈ [TxState.off, .starting, .running, .draining], ((withTx x .off reset).cfr.get .a).tx = x)
      ∧ reset.shi.carrierBFitted = true ∧ (after (.powerOnReset false) reset).shi.carrierBFitted = false
      ∧ 2 ≤ (2 : Word).toNat := by decide

/-- ProfileSetReplacesTheEntry. -/
theorem wit_profileSet : (1 : Profile) ≠ 0 ∧ (7 : Profile) ≠ 0
    ∧ (0xFFFFFFFF : Word) = BitVec.ofNat 32 0xFFFFFFFF ∧ (15 : Word) = BitVec.ofNat 32 (15 : FlagIx).val
    ∧ (7 : Word).toNat < 8 := by decide

/-- PortSetReplacesTheEntry: a port that does not exist; tenant 8 and channel 63; each form that is taken. -/
theorem wit_portSet : 6 ≤ (6 : Word).toNat ∧ (5 : Word).toNat = (5 : Port).val
    ∧ 8 ≤ (8 : Word).toNat ∧ (8 : Word) ≠ 0xFFFFFFFF ∧ 63 ≤ (63 : Word).toNat
    ∧ ([7, 62] : List Word)[0]? = some (BitVec.ofNat 32 (7 : Tenant).val)
    ∧ ([7, 62] : List Word)[1]? = some (BitVec.ofNat 32 (62 : Channel).val) ∧ (62 : Channel).val ≤ 62 := by decide

/-- ChannelSetReplacesTheEntry: refused at each end, BUSY over a queued frame, and taken. -/
theorem wit_channelSet :
    let queued := (reset.onChannel 62 fun e =>
      { e with owner := some 0, queue := [⟨List.replicate 64 0, 0, 0⟩] }).settle (.channelSet 0 [])
    (4096 : Word).toNat ≤ 4096 ∧ 4096 < (4097 : Word).toNat ∧ (65535 : Word).toNat ≤ 65535 ∧ (62 : Channel) ≠ 63
      ∧ (queued.channel 62).owner ≠ some 1 ∧ (queued.channel 62).queue ≠ [] ∧ (queued.channel 62).owner = some 0
      ∧ (reset.channel 62).queue = [] := by decide

/-- TenantSetCreatesOrIsBusy and TenantRetireWithPurge: each tenant state; in WIND_DOWN the last tenant and another one; a
frame queued, and none; a partial inbound frame. -/
theorem wit_tenantOrders :
    let s := fun x : TenantState => withContract 7 { Contract.reset with state := x } reset
    let two := withContract 3 { Contract.reset with state := .retiring } (inPhase .windDown (s .retiring))
    let queued := (s .held).onChannel 62 fun e => { e with owner := some 7, queue := [⟨List.replicate 64 0, 0, 0⟩] }
    let f : PartialFrame := { channel := 9, length := 100, bytes := [1, 2, 3] }
    (∀ x ∈ [TenantState.vacant, .pending, .admitted, .held, .retiring], ((s x).contract 7).state = x)
      ∧ (∀ j ∈ allTenants, j ≠ 7 → ((s .retiring).contract j).state = .vacant)
      ∧ two.phc.phase = .windDown ∧ (two.contract 3).state ≠ .vacant
      ∧ (∀ ch : Channel, ((s .held).channel ch).owner ≠ some 7)
      ∧ (queued.channel 62).owner = some 7 ∧ (queued.channel 62).queue ≠ [] ∧ queued.phc.phase ≠ .windDown
      ∧ ((queued.onPort 5 fun p => { p with tenant := some 7 }).port 5).tenant = some 7 ∧ (62 : Channel) ≠ 63
      ∧ ((s .held).onInStream 7 fun _ => .collecting (some f)).inStream 7 = .collecting (some f) ∧
    let e := withContract 7 { Contract.reset with state := .retiring } reset
    (e.contract 7).state = .retiring ∧ (reset.contract 7).state = .vacant ∧ reset.phc.phase ≠ .service
      ∧ (inPhase .windDown reset).phc.phase = .windDown ∧ (e.contract 7).state ≠ .vacant ∧ e.phc.phase ≠ .windDown := by decide +kernel

/-- TimingSetClampsItsValues. -/
theorem wit_timingSet :
    let e := (withServo .locked .phase reset).settle (.timingSet 0 [])
    e.tsv.state ≠ .freerun ∧ e.tsv.state ≠ .holdover := by decide

/-- GnssLabelBecomesPending. -/
theorem wit_gnssLabel :
    let e : State := { reset with tsv := { reset.tsv with label := some ⟨1, some 4⟩ } }
    0xFFFF < (0x10000 : Word).toNat ∧ (0xFFFF : Word).toNat ≤ 0xFFFF ∧ e.tsv.label ≠ none ∧ reset.tsv.label = none := by
  decide

/-- VerdictSetWritesTheFlag: a write that changes the value, and one that does not. -/
theorem wit_verdictSet : VerdictValue.unset = reset.verdict 15 ∧ VerdictValue.pass ≠ reset.verdict 0 := by decide

/-- A waiting TIME_CHECK. -/
def waitingTest (i : SheetIx) : TestRecord := ⟨i, .timeCheck .a 1 none 0, false⟩

/-- TestOrdersAndTheQueue: room and none; a waiting test, and none; a head that starts, and one that does not. -/
theorem wit_testOrders :
    let full : State := { reset with tru := { reset.tru with queue := [1, 2, 3, 4].map waitingTest } }
    4 ≤ full.tru.queue.length ∧ reset.tru.queue.length < 4 ∧ full.tru.queue = [1].map waitingTest ++ waitingTest 2 :: [3, 4].map waitingTest
      ∧ (waitingTest 2).sheet = 2 ∧ (∀ x ∈ [1].map waitingTest ++ [3, 4].map waitingTest, x.sheet ≠ 2)
      ∧ (∀ x ∈ full.tru.queue, x.sheet ≠ 5) ∧ full.tru.running = none
      ∧ (let e := ({ withMemory (sheetMemory 1 2 13 5) (inPhase .commission linked) with
          tru := { reset.tru with queue := [waitingTest 1] }
          shi := { reset.shi with held := [⟨1, 0x1000, 13, []⟩] } } : State)
        e.tru.running = none ∧ e.tru.queue = waitingTest 1 :: [] ∧ e.testSheets = [⟨1, 0x1000, 13, []⟩]
          ∧ e.world.busMaster = true ∧ e.hostByteAt (sheetAddress 0x1000 1 0) = 2 ∧ e.phc.phase ≠ .windDown
          ∧ e.phc.phase ∈ [Phase.commission, .service] ∧ e.cfr.a.tx = .running ∧ e.cfr.a.rx = .sync)
      ∧ reset.phc.phase ∉ [Phase.commission, .service] := by decide +kernel

/-- StandingJoinsTheList: a period of 0, a full list, and room. -/
theorem wit_standing :
    let entry := fun i : SheetIx => (⟨i, 0x1000, .timing, 1, 0, 0, 0⟩ : StandingEntry)
    let full : State := { reset with shi := { reset.shi with standing := [0, 1, 2, 3, 4, 5, 6, 7].map entry } }
    (65535 : Word) ≠ 0 ∧ 8 ≤ full.shi.standing.length ∧ reset.shi.standing.length < 8
      ∧ (∀ x ∈ reset.shi.standing, x.sheet ≠ 9) := by decide

/-- ReadAnswersTheEntry. -/
theorem wit_read : (63 : Word).toNat = (63 : Channel).val ∧ (7 : Word).toNat = (7 : Profile).val
    ∧ (reset.channel 63).owner = none ∧ (7 : Word).toNat = (7 : Tenant).val ∧ (5 : Word).toNat = (5 : Port).val ∧ 8 ≤ (8 : Word).toNat
    ∧ 64 ≤ (64 : Word).toNat ∧ 6 ≤ (6 : Word).toNat ∧ 16 ≤ (16 : Word).toNat ∧ 2 ≤ (2 : Word).toNat
    ∧ (after (.powerOnReset false) reset).shi.carrierBFitted = false := by decide

/-- DrainEndsInOff: the last header-only superframe, and the one after it. -/
theorem wit_drainEnd :
    let e := fun n : Word => (atSuperframe n (withTx .off .draining reset)).enter [] (.drainEnd [] .b)
    (reset.enter [] (.drainEnd [] .b)).cfr.b.tx ≠ .draining ∧ (e 17).cfr.b.tx = .draining
      ∧ 2 ^ 31 ≤ ((16 : Word) - ((e 16).cfr.b.lastPlanned + 17)).toNat
      ∧ ((17 : Word) - ((e 17).cfr.b.lastPlanned + 17)).toNat < 2 ^ 31 := by decide

/-- SuperframeStartCountsOn: a carrier in OFF, in STARTING and in RUNNING with its run lists; the timing superframe 8; a
report that falls due; a frame in progress longer than its slot. -/
theorem wit_superframeStart :
    let s := (atSuperframe 7 (withTx .running .starting (inPhase .align reporting))).onFramer .a
      fun f => { f with heldOut := some [⟨.idle, 128⟩], heldIn := some [⟨.idle, 128⟩] }
    let e := s.enter [] (.superframeStart [])
    let q := (reset.onChannel 4 fun x => { x with queue := [⟨List.replicate 100 0, 0, 0⟩] }).onOutStream 2
      fun o => { o with inProgress := some (4, 60) }
    (reset.cfr.get .a).tx = .off ∧ (e.cfr.get .b).tx = .starting ∧ (e.cfr.get .a).tx = .running
      ∧ (e.cfr.get .a).heldOut ≠ none ∧ (e.cfr.get .a).heldIn ≠ none ∧ e.phc.phase ≠ .windDown
      ∧ (inPhase .windDown s).phc.phase = .windDown ∧ (e.tbs.superframe + 1).toNat % 8 = 0 ∧ (e.tbs.superframe + 1).toNat % 8 ≠ 4
      ∧ e.shi.fault = false ∧ e.shi.restarting = false ∧ e.shi.base ≠ 0
      ∧ (e.shi.standing.map fun x => ((e.tbs.superframe + 1 - x.taken).toNat != 0
        && (e.tbs.superframe + 1 - x.taken).toNat % x.period == 0)) = [true]
      ∧ (reset.outStream 2).inProgress = none ∧ (q.outStream 2).inProgress = some (4, 60)
      ∧ (q.channel 4).queue = ⟨List.replicate 100 0, 0, 0⟩ :: [] ∧ 60 ≤ (List.replicate 100 (0 : Byte)).length ∧ 48 < 60 := by
  decide +kernel

/-- ProfilePointCommits: OFF, pinned, forced to P0, and free; under a DELAY_CAL, which pins. -/
theorem wit_profilePoint :
    let s := withTx .running .off reset
    let pinned := s.onAdapt .a fun a => { a with pin := some ⟨3, 0, true⟩ }
    (withTest calibrating pinned).tru.running = some calibrating ∧ calibrating.kind ≠ .loopBerIn ∧ s.tru.running = none
      ∧ (s.cfr.get .b).tx = .off ∧ (s.cfr.get .a).tx ≠ .off ∧ (s.lau.get .a).pin = none
      ∧ (pinned.lau.get .a).pin = some ⟨3, 0, true⟩ ∧ s.phc.phase = .setup
      ∧ (inPhase .service s).phc.phase ≠ .setup ∧ (inPhase .service s).phc.phase ≠ .align
      ∧ (inPhase .service s).admitted .a ((inPhase .service s).lau.get .a).outbound.next = true := by decide

/-- SERVICE with carrier A in SYNC: tenants 0, 1 and 2 ADMITTED. Tenant 0 has a frame queued and no debt, tenant 1 no frame,
tenant 2 a frame and a debt beyond its grant. -/
def sharing : State :=
  let k : Contract := { Contract.reset with state := .admitted, committed := 400, weight := 1, peak := 400 }
  let s := withContract 2 { k with debtOut := 447 } (withContract 1 k (withContract 0 k (inPhase .service linked)))
  let e : ChannelEntry := { ChannelEntry.reset with queue := [⟨List.replicate 600 0, 0, 0⟩] }
  (s.onChannel 0 fun _ => { e with owner := some 0 }).onChannel 1 fun _ => { e with owner := some 2 }

/-- PlanPointMakesThePlans: a plan with available bytes, with each case of a participant's debt, and one without. -/
theorem wit_planPoint :
    ((sharing.planDirection .outbound).granted.map fun x => (x.tenant, x.demand, x.grant, x.debt))
        = [((0 : Tenant), 603, 400, 0), (1, 0, 0, 0), (2, 603, 400, 447)]
      ∧ (sharing.planDirection .outbound).available = 6144
      ∧ ((withTx .off .off sharing).planDirection .outbound).available = 0
      ∧ ((withTx .off .off sharing).planDirection .outbound).granted.length = 3 := by decide +kernel

/-- RunListsCount128Slots: a whole carrier under test, and 128 test slots. -/
theorem wit_runLists :
    let s := withTx .starting .off reset
    (∀ d ∈ [Carrier.a, .b], (s.tru.holdings.get d).requirement.count ≤ 128)
      ∧ (s.planDirection .outbound).runs.get .a = some [⟨.idle, 128⟩]
      ∧ (Requirement.slots 128).count ≤ 128 := by decide +kernel

/-- DeliveryBeforeSync: OFF, HUNT, and VERIFY with a BAD header, another number, and the second of a run. -/
theorem wit_deliveryBeforeSync :
    let far : Word := BitVec.ofNat 32 (readBig ((delivery 881 1 true).header.toList.take 4))
    let s := withRx .verify .hunt (withTx .running .off reset)
    (reset.cfr.get .a).tx = .off ∧ (s.cfr.get .a).tx ≠ .off ∧ ((withTx .running .off reset).cfr.get .a).rx = .hunt
      ∧ (s.cfr.get .a).rx = .verify ∧ (delivery 881 1 false).headerGood = false ∧ far = 881
      ∧ far ≠ (s.cfr.get .a).expected ∧ (s.cfr.get .a).run < 2 := by decide +kernel

/-- DeliveryBeforeSync, the decisions: a pin; SETUP; uncorrected FEC at P3; P3 below its down threshold and not admitted;
the last count and the one before it. -/
theorem wit_decisions :
    let d : Direction := { window := [174], committed := some 3, next := 3, stepUp := 63 }
    let s := inPhase .service reset
    let gated := s.onAdapt .a fun a => { a with table := a.table.set 3 { a.table[3] with verdict := some 0 } }
    ((s.onAdapt .a fun a => { a with pin := some ⟨3, 0, true⟩ }).lau.get .a).pin ≠ none ∧ (s.lau.get .a).pin = none
      ∧ reset.phc.phase = .setup ∧ s.phc.phase ≠ .setup ∧ s.phc.phase ≠ .align
      ∧ (2 : Profile) < 3 ∧ s.admitted .a 2 = true ∧ d.committed.getD 0 = 3 ∧ gated.admitted .a 3 = false
      ∧ d.window.sum / d.window.length < ((s.lau.get .a).table[(3 : Profile)]).down
      ∧ ((s.lau.get .a).table[(2 : Profile)]).down ≤ d.window.sum / d.window.length
      ∧ ((s.lau.get .a).table[(4 : Profile)]).up ≤ [230].sum / 1 ∧ 63 ≤ d.stepUp ∧ 62 < 63 := by decide

/-- ThirdHeaderBringsSync. -/
theorem wit_thirdHeader :
    let s := (withRx .verify .hunt (withTx .starting .off reset)).onFramer .a fun f => { f with run := 2, expected := 883 }
    let e := s.enter [] (.delivery [] .a (delivery 883 2 true))
    e.cfr.a.tx = .starting ∧ e.cfr.a.rx = .verify ∧ e.cfr.a.run = 2 ∧ (delivery 883 2 true).headerGood = true
      ∧ BitVec.ofNat 32 (readBig ((delivery 883 2 true).header.toList.take 4)) = e.cfr.a.expected
      ∧ readBig (((delivery 883 2 true).header.toList.drop 5).take 1) = 2 := by decide +kernel

/-- ThirdHeaderBringsSync, in SYNC and FLYWHEEL: the expected number, another one, and a BAD header. -/
theorem wit_deliveryInSync :
    let s := fun x : RxState => (withRx x .hunt (withTx .running .off reset)).onFramer .a fun f => { f with expected := 883 }
    let far := fun d : Delivery => BitVec.ofNat 32 (readBig ((d.header.toList.drop 0).take 4))
    (∀ x ∈ [RxState.sync, .flywheel], ((s x).enter [] (.delivery [] .a (delivery 883 2 true))).cfr.a.rx = x)
      ∧ (s .sync).cfr.a.tx ≠ .off ∧ far (delivery 883 2 true) = (s .sync).cfr.a.expected
      ∧ far (delivery 884 2 true) ≠ (s .sync).cfr.a.expected ∧ (delivery 883 2 false).headerGood = false
      ∧ (883 : Word) ∉ (s .sync).ras.judgedLost ∧ (s .sync).tru.running = none := by decide +kernel

/-- MissByReceiveState: each receive state; the third and the fourth miss. -/
theorem wit_miss :
    let s := fun x : RxState =>
      ((withRx .hunt x (withTx .off .running reset)).onFramer .b fun f => { f with missAt := some 0 }).enter [] (.miss [] .b)
    reset.cfr.b.missAt = none ∧ (s .sync).cfr.b.missAt = some 0 ∧ 0 ≤ (s .sync).tbs.advance
      ∧ reset.cfr.b.tx = .off ∧ (∀ x ∈ [RxState.verify, .sync, .flywheel], (s x).cfr.b.tx ≠ .off ∧ (s x).cfr.b.rx ≠ .hunt)
      ∧ (s .hunt).cfr.b.rx = .hunt ∧ 2 < 3 ∧ ¬ 3 < 3 := by decide

/-- A superframe of carrier B that waits. -/
def waitingB : InSuperframe := { far := 7, profile := 0, edition := 0, slots := [], t4 := ⟨0, 0⟩, residence := 0 }

/-- CarrierBWaitEnds: none waits; one just before its millisecond and one at it; a superframe without a plan and one at
another profile; a bad slot, one in HUNTING and one that a frame fills; a frame that is dropped and one that is delivered. -/
theorem wit_carrierBWait :
    let s := reset.onRas fun r => { r with waiting := some (waitingB, 0) }
    let plan : InPlan := { edition := 0, runs := { a := some [⟨.tenant 2, 128⟩], b := none }, profile := { a := 1, b := 0 } }
    let slot : InSlot := { good := true, owner := 2, carry := 48, payload := List.replicate 48 0 }
    let f : PartialFrame := { channel := 9, length := 100, bytes := [1, 2, 3] }
    let c := reset.onChannel 9 fun e => { e with owner := some 2, egressPort := some 5 }
    reset.ras.waiting = none ∧ s.ras.waiting = some (waitingB, 0) ∧ nsUnits 1000000 - 1 < 0 + nsUnits 1000000
      ∧ 0 + nsUnits 1000000 ≤ nsUnits 1000000 ∧ reset.shc.history = [] ∧ [plan] = [] ++ plan :: []
      ∧ plan.edition = waitingB.edition ∧ plan.runs.get .a ≠ none ∧ (plan.profile.get .a).val ≠ waitingB.profile.toNat
      ∧ slot.good = true ∧ slot.owner.toNat = (2 : Tenant).val ∧ ({ slot with good := false }).good = false
      ∧ reset.inStream 2 = .hunting ∧ slot.carry = slot.payload.length
      ∧ (reset.onInStream 2 fun _ => .collecting (some f)).inStream 2 = .collecting (some f)
      ∧ f.bytes.length + slot.payload.length < f.length
      ∧ cellsOf (f.bytes.length + slot.payload.length) ≤ reset.pqu.free + cellsOf f.bytes.length
      ∧ (reset.channel 9).egressPort = none ∧ (c.channel 9).egressPort = some 5 ∧ (c.channel 9).owner = some 2
      ∧ c.world.links[(5 : Port)] = true := by decide +kernel

/-- ArrivalsAreCheckedAndQueued: each length at its end, each tenant state, the last cell of the limit and of the reserve. -/
theorem wit_arrivals :
    let s : State := (reset.onPort 0 fun p => { p with tenant := some 0 }).onChannel 62
      fun e => { e with owner := some 0, limit := 1 }
    let bytes : List Byte := BitVec.ofNat 8 (128 + 62) :: List.replicate 63 0
    (List.replicate 63 (0 : Byte)).length < 64 ∧ bytes.length = 64 ∧ (List.replicate 1536 (0 : Byte)).length ≤ 1536
      ∧ (reset.port 0).tenant = none ∧ reset.pqu.purges = [] ∧ (s.port 0).tenant = some 0
      ∧ (bytes.head?.map fun b => b.toNat) = some (128 + (62 : Channel).val) ∧ (s.channel 62).owner = some 0
      ∧ (s.contract 0).state = .vacant
      ∧ ((withContract 0 { Contract.reset with state := .held } s).contract 0).state = .held
      ∧ (s.channel 62).cells + 1 ≤ (s.channel 62).limit
      ∧ (s.onPqu fun q => { q with free := 256 }).pqu.free < 256 + 1
      ∧ 256 + 1 ≤ (s.onPqu fun q => { q with free := 257 }).pqu.free := by decide +kernel

/-- AgingLeavesNoStaleHead. -/
theorem wit_aging : (∀ k ∈ allTenants, (reset.contract k).state ≠ .retiring) ∧ reset.phc.phase ≠ .windDown
    ∧ ((inPhase .windDown reset).enter [] (.aging [])).phc.phase = .windDown := by decide

/-- WholeSecondMarks: a mark too soon, and the eighth second with a GNSS sample. -/
theorem wit_wholeSecond :
    let soon : State := { reset with tsv := { reset.tsv with lastMark := some 0 } }
    let e : State := { reset with tsv := { reset.tsv with gnss := ⟨some 0, false, 7, 0⟩, gnssCandidate := some ⟨1, 5⟩ } }
    soon.tsv.lastMark = some 0 ∧ soon.tbs.advance < 0 + nsUnits 500000000 ∧ e.tsv.lastMark = none
      ∧ e.tsv.state = .freerun ∧ e.tsv.selected = none ∧ e.tsv.gnss = ⟨some 0, false, 7, 0⟩
      ∧ e.tsv.linkA.qualified = false ∧ e.tsv.linkB.qualified = false ∧ e.tsv.gnssCandidate = some ⟨1, 5⟩
      ∧ e.tsv.linkCandidates = { a := none, b := none } ∧ e.tru.running = none := by decide

/-- WholeSecondMarks, a sample in ACQUIRING and in LOCKED: the sixteenth within the lock window, and one that steps. -/
theorem wit_servoSecond :
    let e := fun (st : TimingState) (ns : Nat) => ({ reset with tsv := { reset.tsv with
      state := st, selected := some .gnss, gnss := ⟨some 0, true, 8, 0⟩, gnssCandidate := some ⟨1, ns⟩, lockCount := 15 } } : State)
    (e .acquiring 5).tsv.lastMark = none ∧ (e .acquiring 5).tsv.state = .acquiring ∧ (e .locked 5).tsv.state = .locked
      ∧ (e .locked 5).tsv.selected = some .gnss ∧ (e .locked 5).tsv.gnss = ⟨some 0, true, 8, 0⟩
      ∧ (e .locked 5).tsv.gnssCandidate = some ⟨1, 5⟩ ∧ (e .locked 5).tsv.linkCandidates = { a := none, b := none }
      ∧ (e .locked 5).tru.running = none ∧ min ((e .acquiring 100).tsv.lockCount + 1) 16 = 16
      ∧ (e .acquiring 1001).tsv.params.stepThreshold < (1001 : Int).natAbs
      ∧ (e .acquiring 1001).phc.phase ≠ .service ∧ (e .acquiring 1001).phc.phase ≠ .windDown := by decide

/-- HoldoverLimitSpends: not in HOLDOVER, one unit before the limit, and at it. -/
theorem wit_holdover :
    let s := withContract 0 { Contract.reset with state := .admitted, requirement := .phase } (withServo .holdover .phase reset)
    let limit := nsUnits (s.tsv.params.holdoverLimit * 1000000000)
    let since : State := { s with tsv := { s.tsv with holdoverSince := some 0 } }
    reset.tsv.state ≠ .holdover ∧ since.tsv.holdoverSince = some 0 ∧ limit - 1 < 0 + limit ∧ 0 + limit ≤ limit ∧ 0 < limit
      ∧ s.tsv.state = .holdover ∧ s.tsv.timingClass = .phase
      ∧ (s.contract 0).state = .admitted := by decide

/-- GnssEdgeIsCaptured: an edge too soon, the first one, and a label in SERVICE and in COMMISSION. -/
theorem wit_gnssEdge :
    let soon : State := { reset with tbs := { reset.tbs with lastCapture := some (⟨0, 0⟩, 0) } }
    let labelled : State := { reset with tsv := { reset.tsv with label := some ⟨9, some 4⟩ } }
    soon.tbs.lastCapture = some (⟨0, 0⟩, 0) ∧ soon.tbs.advance < 0 + nsUnits 900000000 ∧ reset.tbs.lastCapture = none
      ∧ reset.tsv.label = none ∧ (inPhase .service labelled).tsv.label = some ⟨9, some 4⟩
      ∧ (inPhase .service labelled).phc.phase = .service
      ∧ (inPhase .commission (withServo .acquiring .none labelled)).tsv.state = .acquiring
      ∧ (inPhase .commission (withServo .acquiring .none labelled)).tsv.label = some ⟨9, some 4⟩ := by decide

/-- A PPS_SET at the tick of the old offset's instant: the instant is judged by the settings before the order (R136). -/
theorem test_ppsSet_dueInstant_R136 :
    let s := fun enable : Bool => ({ reset with
      due := [.ppsPulseInstant [] 1]
      tbs := { reset.tbs with pps := Vector.replicate 2 { PpsOutput.reset with enable := enable, squelch := .none } } } : State)
    let on := after (.ppsSet 4 [1, 1, 500, 0]) (s false)
    let off := after (.ppsSet 4 [1, 0, 500, 0]) (s true)
    (on.tbs.pps[1].high, on.tbs.pps[1].enable, on.due.length) = (false, true, 1)
      ∧ (off.tbs.pps[1].high, off.tbs.pps[1].enable, off.tbs.pps[1].lastPulse) = (true, false, some 0) := by decide +kernel

/-- PpsSetReplacesTheRecord: an instant due, and none. -/
theorem wit_ppsSet : Instr.ppsPulseInstant [] 1 ∉ (reset.settle (.ppsSet 4 [1, 1, 500, 0])).due
    ∧ Instr.ppsPulseInstant [] 1
      ∈ (({ reset with due := [.ppsPulseInstant [] 1] } : State).settle (.ppsSet 4 [1, 1, 500, 0])).due := by decide

/-- PpsOutputsPulse: an output that pulses, and one that does not. -/
theorem wit_pps :
    let o : PpsOutput := { PpsOutput.reset with enable := true, squelch := .none }
    let s : State := { reset with tbs := { reset.tbs with pps := Vector.replicate 2 o } }
    s.tbs.pps[(1 : PpsOut)].enable = true ∧ s.tbs.pps[(1 : PpsOut)].squelch.code ≤ s.tsv.timingClass.code
      ∧ s.tbs.pps[(1 : PpsOut)].lastPulse = none ∧ reset.tbs.pps[(0 : PpsOut)].enable = false := by decide

/-- A SWEEP of carrier A in WRAP mode with a capture length of 1. -/
def sweeping : Running :=
  { record := ⟨1, .sweep .a 1 0x9000 1 true none (-500), false⟩, start := 0, acknowledged := false,
    data := .sweep { nextSample := 0, index := 0, wraps := 0, written := 0, peak := none, writeErrors := 0 } }

/-- SweepTakesItsSample: no test, a sample not due, and one that is, in WRAP mode; a failed write. -/
theorem wit_sweep :
    let s := (withTest sweeping reset).onAdapt .a fun a => { a with lastLocal := some ⟨300, -410⟩ }
    let e := s.enter [] (.sweepSample [] true)
    reset.tru.running = none ∧ 2 ^ 31 ≤ ((0 : Word) - 1).toNat ∧ (true = true ∧ e.world.busMaster = true)
      ∧ ¬ (false = true ∧ e.world.busMaster = true) ∧ e.tru.running = some sweeping
      ∧ sweeping.record.params = .sweep .a 1 0x9000 1 true none (-500)
      ∧ ((0 : Word) - 0).toNat < 2 ^ 31 ∧ e.world.busMaster = true ∧ memoryWf e.world.mem = true
      ∧ (e.lau.get .a).lastLocal = some ⟨300, -410⟩ := by decide

/-- A LOOP_BER_OUT of one superframe. -/
def looping : Running :=
  { record := ⟨6, .loopBerOut .a 3 1 none 10, false⟩, start := 0, acknowledged := true,
    data := .ber { reference := 0, pattern := patternStart, sent := [], superframes := 1, bits := 0, errors := 0, lost := 0 } }

/-- NoLoopEndsTheTest, BerDurationEndsTheTest and DelayCalTimesOut: the superframe before the end, and the end. -/
theorem wit_testEnds :
    let e := fun (n : Word) (r : Running) => atSuperframe n (withTest r reset)
    (e 63 calibrating).tru.running = some calibrating ∧ ((e 63 calibrating).tbs.superframe - calibrating.start).toNat < 64
      ∧ calibrating.kind = .delayCal ∧ calibrating.acknowledged = false
      ∧ 64 ≤ ((e 64 calibrating).tbs.superframe - calibrating.start).toNat
      ∧ ((e 4095 calibrating).tbs.superframe - calibrating.start).toNat < 4096
      ∧ 4096 ≤ ((e 4096 calibrating).tbs.superframe - calibrating.start).toNat
      ∧ (e 1 looping).tru.running = some looping ∧ ((e 1 looping).tbs.superframe - looping.start).toNat ≤ 1
      ∧ 1 < ((e 2 looping).tbs.superframe - looping.start).toNat ∧ looping.acknowledged = true
      ∧ looping.record.params = .loopBerOut .a 3 1 none 10
      ∧ calibrating.record.params = .delayCal .a 2 (some 3) 100 := by decide

/-- A TIME_CHECK of one second with a flag. -/
def checking (counted pairs : Nat) : Running :=
  { record := ⟨6, .timeCheck .a 1 (some 2) 200, false⟩, start := 0, acknowledged := false,
    data := .check { begun := true, counted := counted, pairs := pairs, sum := -150, least := -150, greatest := -150 } }

/-- TimeCheckCompletes: before its last second, and after it with a verdict of PASS and of FAIL. -/
theorem wit_timeCheck :
    (withTest (checking 0 0) reset).tru.running = some (checking 0 0) ∧ 0 < 1 ∧ 1 ≤ 1
      ∧ (0 < 1 ∧ (1 + 1) / 2 ≤ 1 ∧ ((-150 : Int).tdiv 1).natAbs ≤ 200)
      ∧ ¬ (0 < 0 ∧ (1 + 1) / 2 ≤ 0) := by decide

/-- TicksGainTheirTime. -/
theorem wit_ticks : reset.tbs.ns < 1000000000 ∧ reset.tbs.fraction < 65536 ∧ reset.tbs.residue < 1000000000000
    ∧ -25000000 ≤ reset.tbs.rate ∧ reset.tbs.rate ≤ 25000000 ∧ reset.pending = [] ∧ reset.due = [] := by decide

/-- The statements of what every step keeps: a state in superframe 9 with carrier A linked holds each invariant, and its
step answers a next state. -/
def later : State := atSuperframe 9 linked

theorem wit_memoryOk : later.memoryOk ∧ step later = .next (later.elapse 1) := ⟨by unfold State.memoryOk; decide, rfl⟩
theorem wit_counterOk : later.counterOk := by unfold State.counterOk; decide
theorem wit_cellsOk : later.cellsOk := by
  refine ⟨by decide +kernel, by decide +kernel, fun t => ?_⟩
  have h : later.inStream t = .hunting := by
    revert t; decide
  rw [h]; trivial
theorem wit_gatesOk : later.gatesOk := by
  refine ⟨by decide, by decide, fun f => ?_⟩
  have h : later.tru.verdicts[f] = Verdict.reset := by
    revert f; decide
  rw [h]; exact ⟨by decide, by decide⟩
theorem wit_listsOk : later.listsOk := by
  refine ⟨fun c => ?_, by decide, by decide, by decide, by decide, by decide⟩
  cases c <;> exact ⟨by decide, ⟨by decide, by decide⟩, ⟨by decide, by decide⟩⟩
theorem wit_contractsOk : later.contractsOk := by
  refine ⟨fun c p => by cases c <;> rfl, ?_⟩
  decide

end Sys2Proof.Tests
end

section
/-! What every step keeps of the contracts and the Profile Tables (R48, R82, R105). Most operations leave the numbers of the
contracts and the slot payloads as they are: for these `contractsOk` holds after just when it held before, and the `simp` set
below says so. The others write clamped contracts (TENANT_SET), reset ones (R90, R25) or new debts (the plan point). -/

namespace Sys2Proof.Machine

/-! ### The invariant of one contract -/

/-- A contract is clamped (R82) and its debts are within 447 (R105). -/
def Contract.clamped (k : Contract) : Prop :=
  k.committed ≤ k.peak ∧ k.peak ≤ 114688 ∧ k.weight ≤ 255 ∧ k.debtOut ≤ 447 ∧ k.debtIn ≤ 447

theorem State.contractsOk_iff (s : State) : s.contractsOk ↔ s.payloadsOk ∧ ∀ t : Tenant, (s.contract t).clamped := Iff.rfl

theorem Contract.clamped_reset : Contract.reset.clamped := by unfold Contract.clamped; decide

theorem clampContract_clamped {k : Contract} (h : k.clamped) (raw : Contract) (ho : raw.debtOut = k.debtOut)
    (hi : raw.debtIn = k.debtIn) : (clampContract raw).clamped := by
  obtain ⟨_, _, _, hout, hin⟩ := h
  simp only [Contract.clamped, clampContract]
  omega

/-- The invariant sees the slot payloads and the Contract Table alone. -/
theorem State.contractsOk_congr {s t : State}
    (payloads : ∀ (c : Carrier) (p : Profile), (t.lau.get c).table[p].payload = (s.lau.get c).table[p].payload)
    (contracts : t.shc.contracts = s.shc.contracts) : t.contractsOk ↔ s.contractsOk := by
  simp only [State.contractsOk, State.payloadsOk, State.contract, payloads, contracts]

theorem State.contractsOk_of_blocks {s t : State} (lau : t.lau = s.lau) (shc : t.shc = s.shc) :
    t.contractsOk ↔ s.contractsOk :=
  State.contractsOk_congr (by simp [lau]) (by rw [shc])

/-! ### The operations on the state -/

section Operations
variable (s : State)

@[simp] theorem State.contractsOk_onShi (f : Shi → Shi) : (s.onShi f).contractsOk ↔ s.contractsOk := Iff.rfl
@[simp] theorem State.contractsOk_onFramer (c : Carrier) (f : Framer → Framer) :
    (s.onFramer c f).contractsOk ↔ s.contractsOk := Iff.rfl
@[simp] theorem State.contractsOk_onPqu (f : Pqu → Pqu) : (s.onPqu f).contractsOk ↔ s.contractsOk := Iff.rfl
@[simp] theorem State.contractsOk_onOutStream (t : Tenant) (f : OutStream → OutStream) :
    (s.onOutStream t f).contractsOk ↔ s.contractsOk := Iff.rfl
@[simp] theorem State.contractsOk_onRas (f : Ras → Ras) : (s.onRas f).contractsOk ↔ s.contractsOk := Iff.rfl
@[simp] theorem State.contractsOk_onTbs (f : Tbs → Tbs) : (s.onTbs f).contractsOk ↔ s.contractsOk := Iff.rfl
@[simp] theorem State.contractsOk_onTsv (f : Tsv → Tsv) : (s.onTsv f).contractsOk ↔ s.contractsOk := Iff.rfl
@[simp] theorem State.contractsOk_onTru (f : Tru → Tru) : (s.onTru f).contractsOk ↔ s.contractsOk := Iff.rfl
@[simp] theorem State.contractsOk_onPhc (f : Phc → Phc) : (s.onPhc f).contractsOk ↔ s.contractsOk := Iff.rfl
@[simp] theorem State.contractsOk_onWorld (f : World → World) : (s.onWorld f).contractsOk ↔ s.contractsOk := Iff.rfl
@[simp] theorem State.contractsOk_onChannel (ch : Channel) (f : ChannelEntry → ChannelEntry) :
    (s.onChannel ch f).contractsOk ↔ s.contractsOk := Iff.rfl
@[simp] theorem State.contractsOk_onPort (p : Port) (f : PortEntry → PortEntry) :
    (s.onPort p f).contractsOk ↔ s.contractsOk := Iff.rfl
@[simp] theorem State.contractsOk_onInStream (t : Tenant) (f : InStream → InStream) :
    (s.onInStream t f).contractsOk ↔ s.contractsOk := Iff.rfl
@[simp] theorem State.contractsOk_onRasCarrier (c : Carrier) (f : RasCarrier → RasCarrier) :
    (s.onRasCarrier c f).contractsOk ↔ s.contractsOk := Iff.rfl
@[simp] theorem State.contractsOk_emit (o : Output) : (s.emit o).contractsOk ↔ s.contractsOk := Iff.rfl
@[simp] theorem State.contractsOk_draw : s.draw.contractsOk ↔ s.contractsOk := Iff.rfl
@[simp] theorem State.contractsOk_fallDue (c : Instr) : (s.fallDue c).contractsOk ↔ s.contractsOk := Iff.rfl
@[simp] theorem State.contractsOk_settle (c : Instr) : (s.settle c).contractsOk ↔ s.contractsOk := Iff.rfl
@[simp] theorem State.contractsOk_answer (sheet : SheetIx) (code : AnswerCode) (words : List Word) :
    (s.answer sheet code words).contractsOk ↔ s.contractsOk := Iff.rfl
@[simp] theorem State.contractsOk_addEvent (k : EventKind) : (s.addEvent k).contractsOk ↔ s.contractsOk :=
  State.contractsOk_of_blocks (by simp) (by simp)

/-- An update of the Share Computer that leaves the Contract Table. -/
@[simp] theorem State.contractsOk_onShc (f : Shc → Shc) (h : (f s.shc).contracts = s.shc.contracts) :
    (s.onShc f).contractsOk ↔ s.contractsOk := State.contractsOk_congr (fun _ _ => rfl) h

/-- An update of a carrier's record that leaves its slot payloads (R48). -/
@[simp] theorem State.contractsOk_onAdapt (c : Carrier) (f : Adaptation → Adaptation)
    (h : ∀ p : Profile, (f (s.lau.get c)).table[p].payload = (s.lau.get c).table[p].payload) :
    (s.onAdapt c f).contractsOk ↔ s.contractsOk := by
  refine State.contractsOk_congr (fun d p => ?_) rfl
  rw [State.onAdapt_lau, PerCarrier.get_modify]
  split
  · next e => cases e; exact h p
  · rfl

/-- The entry of a Contract Table after an update of one of them. -/
theorem State.contract_onContract (t u : Tenant) (f : Contract → Contract) :
    (s.onContract t f).contract u = if u = t then f (s.contract u) else s.contract u := by
  simp only [State.contract, State.onContract, State.onShc_shc]
  exact tableModify_get s.shc.contracts t u f

/-- An update of a contract that leaves it clamped keeps the invariant. -/
theorem State.contractsOk.onContract {s : State} (h : s.contractsOk) {t : Tenant} {f : Contract → Contract}
    (hf : (f (s.contract t)).clamped) : (s.onContract t f).contractsOk := by
  refine ⟨h.1, fun u => ?_⟩
  change ((s.onContract t f).contract u).clamped
  rw [State.contract_onContract]
  split
  · next e => rw [e]; exact hf
  · exact h.2 u

/-- The state of a tenant is no part of the invariant. -/
@[simp] theorem State.contractsOk_setTenant (t : Tenant) (st : TenantState) :
    (s.setTenant t st).contractsOk ↔ s.contractsOk := by
  have same (u : Tenant) : ((s.onContract t fun k => { k with state := st }).contract u).clamped
      ↔ (s.contract u).clamped := by
    rw [State.contract_onContract]; split <;> rfl
  rw [State.setTenant, State.contractsOk_addEvent, State.contractsOk_iff, State.contractsOk_iff]
  exact and_congr Iff.rfl (forall_congr' same)

end Operations

/-! ### Folds -/

theorem State.contractsOk_foldl {α : Type} {f : State → α → State} (hf : ∀ s x, (f s x).contractsOk ↔ s.contractsOk)
    (l : List α) (s : State) : (l.foldl f s).contractsOk ↔ s.contractsOk := by
  induction l generalizing s with
  | nil => rfl
  | cons x rest ih => rw [List.foldl_cons, ih, hf]

theorem State.contractsOk.foldl {α : Type} {f : State → α → State}
    (hf : ∀ s x, s.contractsOk → (f s x).contractsOk) (l : List α) {s : State} (h : s.contractsOk) :
    (l.foldl f s).contractsOk := by
  induction l generalizing s with
  | nil => exact h
  | cons x rest ih => exact ih (hf s x h)

/-! ### Link adaptation (chapter 3) -/

section Adaptation
variable (s : State)

@[simp] theorem State.contractsOk_inboundReport (c : Carrier) (snr : Nat) (level : Int) (fec : Nat) :
    (s.inboundReport c snr level fec).contractsOk ↔ s.contractsOk := s.contractsOk_onAdapt c _ fun _ => rfl

@[simp] theorem State.contractsOk_outboundReport (c : Carrier) (snr : Nat) (fec : Bool) :
    (s.outboundReport c snr fec).contractsOk ↔ s.contractsOk := s.contractsOk_onAdapt c _ fun _ => rfl

@[simp] theorem State.contractsOk_clearCounts (c : Carrier) :
    (s.onAdapt c Adaptation.clearCounts).contractsOk ↔ s.contractsOk := s.contractsOk_onAdapt c _ fun _ => rfl

@[simp] theorem State.contractsOk_setPin (c : Carrier) (pin : Option Pin) :
    (s.onAdapt c fun a => { a with pin := pin }).contractsOk ↔ s.contractsOk := s.contractsOk_onAdapt c _ fun _ => rfl

@[simp] theorem State.contractsOk_commitCarrier (c : Carrier) : (s.commitCarrier c).contractsOk ↔ s.contractsOk := by
  unfold State.commitCarrier
  dsimp only
  split
  · rfl
  · split <;> split <;> simp

/-- The calibrated delay of a profile is no payload (R52). -/
@[simp] theorem State.contractsOk_writeDelay (c : Carrier) (p : Profile) (d : Int) :
    (s.writeDelay c p d).contractsOk ↔ s.contractsOk := by
  refine s.contractsOk_onAdapt c _ fun q => ?_
  dsimp only
  rw [tableModify_get]
  split <;> rfl

/-- The entry a PROFILE_SET leaves has the payload it found (R50). -/
theorem State.contractsOk_setEntry (c : Carrier) (p : Profile) (new : ProfileEntry)
    (h : new.payload = (s.lau.get c).table[p].payload) : (s.setEntry c p new).contractsOk ↔ s.contractsOk := by
  have written : (s.onAdapt c fun a => { a with table := tableModify a.table p fun _ => new }).contractsOk
      ↔ s.contractsOk := by
    refine s.contractsOk_onAdapt c _ fun q => ?_
    dsimp only
    rw [tableModify_get]
    split
    · next e => rw [e, h]
    · rfl
  unfold State.setEntry
  dsimp only
  split
  · rw [State.contractsOk_clearCounts, written]
  · exact written

@[simp] theorem State.contractsOk_profileSet (sheet : SheetIx) (params : List Word) :
    (s.profileSet sheet params).contractsOk ↔ s.contractsOk := by
  unfold State.profileSet
  split
  · dsimp only
    split
    · simp
    · split
      · rw [State.contractsOk_answer]; exact s.contractsOk_setEntry _ _ _ rfl
      · simp
  · simp

end Adaptation

/-! ### Admission and verdicts (sections 5.2, 10.1) -/

section Verdicts
variable (s : State)

@[simp] theorem State.contractsOk_offerAdmission (t : Tenant) : (s.offerAdmission t).contractsOk ↔ s.contractsOk := by
  unfold State.offerAdmission; split <;> simp

@[simp] theorem State.contractsOk_admissionEvent : s.admissionEvent.contractsOk ↔ s.contractsOk :=
  State.contractsOk_foldl (fun s t => s.contractsOk_offerAdmission t) allTenants s

@[simp] theorem State.contractsOk_compareClass (t : Tenant) : (s.compareClass t).contractsOk ↔ s.contractsOk := by
  unfold State.compareClass
  split
  · split <;> simp
  · split <;> simp
  all_goals rfl

@[simp] theorem State.contractsOk_classChanged : s.classChanged.contractsOk ↔ s.contractsOk :=
  (State.contractsOk_admissionEvent _).trans
    (State.contractsOk_foldl (fun s t => s.contractsOk_compareClass t) allTenants s)

@[simp] theorem State.contractsOk_recomputeGate : s.recomputeGate.contractsOk ↔ s.contractsOk := Iff.rfl

@[simp] theorem State.contractsOk_admissionChanged (f : FlagIx) :
    (s.admissionChanged f).contractsOk ↔ s.contractsOk := by
  unfold State.admissionChanged
  dsimp only
  split <;> split <;> simp

@[simp] theorem State.contractsOk_writeVerdict (f : FlagIx) (v : VerdictValue) (w : Writer) :
    (s.writeVerdict f v w).contractsOk ↔ s.contractsOk := by
  unfold State.writeVerdict
  dsimp only
  split
  · simp
  · split <;> simp

@[simp] theorem State.contractsOk_verdictSet (sheet : SheetIx) (params : List Word) :
    (s.verdictSet sheet params).contractsOk ↔ s.contractsOk := by
  unfold State.verdictSet; split <;> simp

end Verdicts

/-! ### Ports and queues (chapter 4) -/

section Pool
variable (s : State)

@[simp] theorem State.contractsOk_takeCells (n : Nat) : (s.takeCells n).1.contractsOk ↔ s.contractsOk := by
  obtain ⟨_, _, frame⟩ := s.takeCells_spec n
  rw [frame]; rfl

@[simp] theorem State.contractsOk_returnCells (n : Nat) : (s.returnCells n).contractsOk ↔ s.contractsOk := Iff.rfl

@[simp] theorem State.contractsOk_removeHead (ch : Channel) (count : ChannelEntry → ChannelEntry) :
    (s.removeHead ch count).contractsOk ↔ s.contractsOk := by
  unfold State.removeHead; split <;> simp

@[simp] theorem State.contractsOk_purge (t : Tenant) : (s.purge t).contractsOk ↔ s.contractsOk :=
  State.contractsOk_foldl (f := fun s ch => s.purgeChannel ch) (fun _ _ => Iff.rfl) (s.channelsOf t) s

@[simp] theorem State.contractsOk_notePurge (t : Tenant) : (s.notePurge t).contractsOk ↔ s.contractsOk := Iff.rfl

@[simp] theorem State.contractsOk_egress (p : Port) (bytes : List Byte) :
    (s.egress p bytes).1.contractsOk ↔ s.contractsOk := by
  unfold State.egress; split <;> simp

@[simp] theorem State.contractsOk_enqueue (p : Port) (bytes : List Byte) (ch : Channel) :
    (s.enqueue p bytes ch).contractsOk ↔ s.contractsOk := by
  unfold State.enqueue
  dsimp only
  split <;> simp

@[simp] theorem State.contractsOk_arrive (p : Port) (bytes : List Byte) (good : Bool) :
    (s.arrive p bytes good).contractsOk ↔ s.contractsOk := by
  unfold State.arrive
  dsimp only
  split <;> simp

@[simp] theorem State.contractsOk_portSet (sheet : SheetIx) (params : List Word) :
    (s.portSet sheet params).contractsOk ↔ s.contractsOk := by
  unfold State.portSet
  split
  · simp
  · split <;> simp

@[simp] theorem State.contractsOk_channelSet (sheet : SheetIx) (params : List Word) :
    (s.channelSet sheet params).contractsOk ↔ s.contractsOk := by
  unfold State.channelSet
  split
  · simp
  · dsimp only
    split
    · split <;> simp
    · simp

end Pool

/-! ### Tests (chapter 10) -/

section Tests
variable (s : State)

@[simp] theorem State.contractsOk_setRunData (d : RunData) : (s.setRunData d).contractsOk ↔ s.contractsOk := Iff.rfl

@[simp] theorem State.contractsOk_releaseTest : s.releaseTest.contractsOk ↔ s.contractsOk := by
  unfold State.releaseTest; split <;> simp

@[simp] theorem State.contractsOk_endTest (verdict : Option VerdictValue) (code : AnswerCode) :
    (s.endTest verdict code).contractsOk ↔ s.contractsOk := by
  unfold State.endTest
  split
  · rfl
  · dsimp only
    split <;> simp

@[simp] theorem State.contractsOk_completeTest (pass : Bool) : (s.completeTest pass).contractsOk ↔ s.contractsOk := by
  unfold State.completeTest; split <;> simp

@[simp] theorem State.contractsOk_dropTest (sheet : SheetIx) : (s.dropTest sheet).contractsOk ↔ s.contractsOk := by
  unfold State.dropTest
  dsimp only
  split
  · simp
  · split <;> simp

@[simp] theorem State.contractsOk_testLinkLoss (c : Carrier) : (s.testLinkLoss c).contractsOk ↔ s.contractsOk := by
  unfold State.testLinkLoss
  split
  · rfl
  · split <;> simp

@[simp] theorem State.contractsOk_sweepCarrierOff (c : Carrier) :
    (s.sweepCarrierOff c).contractsOk ↔ s.contractsOk := by
  unfold State.sweepCarrierOff
  split
  · rfl
  · split <;> simp

@[simp] theorem State.contractsOk_berInProfileChange : s.berInProfileChange.contractsOk ↔ s.contractsOk := by
  unfold State.berInProfileChange
  split
  · rfl
  · split
    · split <;> simp
    · rfl

@[simp] theorem State.contractsOk_testOrder (sheet : SheetIx) (params : List Word) :
    (s.testOrder sheet params).contractsOk ↔ s.contractsOk := by
  unfold State.testOrder
  split
  · simp
  · split <;> simp

@[simp] theorem State.contractsOk_testStop (sheet : SheetIx) (params : List Word) :
    (s.testStop sheet params).contractsOk ↔ s.contractsOk := by
  unfold State.testStop
  split
  · simp
  · split
    · simp
    · split
      · simp
      · split
        · split <;> simp
        · simp

@[simp] theorem State.contractsOk_startTest (r : TestRecord) : (s.startTest r).contractsOk ↔ s.contractsOk := by
  unfold State.startTest
  cases r.params.pin with
  | none => dsimp only; split <;> simp
  | some pin => dsimp only; split <;> simp

@[simp] theorem State.contractsOk_tryHeads (n : Nat) : (s.tryHeads n).contractsOk ↔ s.contractsOk := by
  induction n generalizing s with
  | zero => rfl
  | succ n ih =>
    rw [State.tryHeads]
    split
    · dsimp only
      split
      · simp [ih]
      · split <;> simp [ih]
    · rfl

@[simp] theorem State.contractsOk_berEnd : s.berEnd.contractsOk ↔ s.contractsOk := by
  unfold State.berEnd
  split
  · split
    · rfl
    · split <;> simp
  · rfl

@[simp] theorem State.contractsOk_noLoopEnd : s.noLoopEnd.contractsOk ↔ s.contractsOk := by
  unfold State.noLoopEnd; split <;> simp

@[simp] theorem State.contractsOk_delayTimeout : s.delayTimeout.contractsOk ↔ s.contractsOk := by
  unfold State.delayTimeout; split <;> simp

@[simp] theorem State.contractsOk_sweepSample (good : Bool) : (s.sweepSample good).contractsOk ↔ s.contractsOk := by
  unfold State.sweepSample
  split
  · split
    · rfl
    · split
      · dsimp only
        split <;> simp [apply_ite State.contractsOk]
      · rfl
  · rfl

@[simp] theorem State.contractsOk_loopAcknowledged (c : Carrier) :
    (s.loopAcknowledged c).contractsOk ↔ s.contractsOk := Iff.rfl

@[simp] theorem State.contractsOk_testContents (c : Carrier) (payload : Nat) (positions : List Nat) :
    (s.testContents c payload positions).2.contractsOk ↔ s.contractsOk := by
  unfold State.testContents
  split
  · rfl
  · dsimp only
    split
    · rfl
    · split
      · split <;> simp
      all_goals rfl

@[simp] theorem State.contractsOk_readEchoes (c : Carrier) (t4 : Stamp) (residence : Word) (slots : List (List Byte)) :
    (s.readEchoes c t4 residence slots).contractsOk ↔ s.contractsOk := by
  unfold State.readEchoes
  split
  · rfl
  · split
    · rfl
    · split
      · simp
      · split
        · rfl
        · dsimp only
          split <;> simp
      all_goals rfl

@[simp] theorem State.contractsOk_testSeesStep : s.testSeesStep.contractsOk ↔ s.contractsOk := by
  unfold State.testSeesStep
  split
  · rfl
  · split <;> simp

@[simp] theorem State.contractsOk_testSeesSecond (gnss : Option Int) (link : PerCarrier (Option Int)) :
    (s.testSeesSecond gnss link).contractsOk ↔ s.contractsOk := by
  unfold State.testSeesSecond
  split
  · rfl
  · split
    · dsimp only
      split <;> simp
    · rfl

@[simp] theorem State.contractsOk_checkCompletes : s.checkCompletes.contractsOk ↔ s.contractsOk := by
  unfold State.checkCompletes
  split
  · split <;> simp
  · rfl

end Tests

/-! ### Reassembly (sections 7.3 to 7.5) -/

section Reassembly
variable (s : State)

@[simp] theorem State.contractsOk_huntStream (t : Tenant) : (s.huntStream t).contractsOk ↔ s.contractsOk := by
  rw [(s.huntStream_frame t).1]; rfl

@[simp] theorem State.contractsOk_huntAll : s.huntAll.contractsOk ↔ s.contractsOk :=
  State.contractsOk_foldl (fun s t => s.contractsOk_huntStream t) allTenants s

@[simp] theorem State.contractsOk_deliverFrame (t : Tenant) (f : PartialFrame) :
    (s.deliverFrame t f).contractsOk ↔ s.contractsOk := by
  unfold State.deliverFrame
  dsimp only
  split
  · simp
  · split <;> simp

@[simp] theorem State.contractsOk_storeBytes (t : Tenant) (f : PartialFrame) (bytes : List Byte) :
    (s.storeBytes t f bytes).1.contractsOk ↔ s.contractsOk := by
  unfold State.storeBytes
  dsimp only
  split
  · split <;> simp
  · simp

@[simp] theorem State.contractsOk_readLabels (t : Tenant) (fuel : Nat) (bytes : List Byte) :
    (s.readLabels t fuel bytes).contractsOk ↔ s.contractsOk := by
  induction fuel generalizing bytes s with
  | zero => rfl
  | succ n ih =>
    rw [State.readLabels]
    split
    · rfl
    · simp
    · dsimp only
      split <;> simp [ih]

@[simp] theorem State.contractsOk_readHunting (t : Tenant) (bytes : List Byte) :
    (s.readHunting t bytes).contractsOk ↔ s.contractsOk := by
  unfold State.readHunting
  split
  · rfl
  · split <;> simp

@[simp] theorem State.contractsOk_readSlot (t : Tenant) (slot : InSlot) :
    (s.readSlot t slot).contractsOk ↔ s.contractsOk := by
  unfold State.readSlot
  split
  · simp
  · dsimp only
    split
    · simp
    · split <;> simp
    · split
      · split <;> simp
      · simp

@[simp] theorem State.contractsOk_readSlots (slots : List (SlotOwner × InSlot)) :
    (s.readSlots slots).contractsOk ↔ s.contractsOk := by
  induction slots generalizing s with
  | nil => rfl
  | cons x rest ih =>
    obtain ⟨owner, slot⟩ := x
    cases owner with
    | tenant t => rw [State.readSlots, ih, State.contractsOk_readSlot]
    | test => exact ih s
    | idle => exact ih s

@[simp] theorem State.contractsOk_processSuperframe (c : Carrier) (m : InSuperframe) :
    (s.processSuperframe c m).contractsOk ↔ s.contractsOk := by
  have huntPlanned (runs : List Run) (s : State) : (allTenants.foldl (fun (s : State) (t : Tenant) =>
      if runs.any fun (r : Run) => r.owner == SlotOwner.tenant t then s.huntStream t else s) s).contractsOk
        ↔ s.contractsOk :=
    State.contractsOk_foldl (fun s t => by split <;> simp) allTenants s
  unfold State.processSuperframe
  dsimp only
  rw [State.contractsOk_onRasCarrier]
  repeat' split
  all_goals
    simp only [State.contractsOk_onRasCarrier, State.contractsOk_huntAll, huntPlanned, State.contractsOk_readEchoes,
      State.contractsOk_readSlots]

@[simp] theorem State.contractsOk_processJudged (m : InSuperframe) :
    (s.processJudged m).contractsOk ↔ s.contractsOk := by simp [State.processJudged]

@[simp] theorem State.contractsOk_processWaiting : s.processWaiting.contractsOk ↔ s.contractsOk := by
  unfold State.processWaiting; split <;> simp

@[simp] theorem State.contractsOk_handOverA (m : InSuperframe) : (s.handOverA m).contractsOk ↔ s.contractsOk := by
  unfold State.handOverA
  split
  · simp
  · dsimp only
    split
    · simp
    · split <;> simp

@[simp] theorem State.contractsOk_handOverB (m : InSuperframe) : (s.handOverB m).contractsOk ↔ s.contractsOk := by
  unfold State.handOverB
  dsimp only
  split
  · simp
  · split
    · simp
    · split <;> simp

@[simp] theorem State.contractsOk_handOver (c : Carrier) (m : InSuperframe) :
    (s.handOver c m).contractsOk ↔ s.contractsOk := by
  cases c with
  | a => exact s.contractsOk_handOverA m
  | b => exact s.contractsOk_handOverB m

@[simp] theorem State.contractsOk_lostNotice (c : Carrier) (far : Word) :
    (s.lostNotice c far).contractsOk ↔ s.contractsOk := by
  unfold State.lostNotice
  split
  · simp
  · split <;> simp

@[simp] theorem State.contractsOk_endWait : s.endWait.contractsOk ↔ s.contractsOk := by
  unfold State.endWait; split <;> simp

end Reassembly

/-! ### Carriers (sections 2.5 to 2.7) -/

section Carriers
variable (s : State)

@[simp] theorem State.contractsOk_setTx (c : Carrier) (st : TxState) : (s.setTx c st).contractsOk ↔ s.contractsOk := by
  unfold State.setTx; split <;> simp

@[simp] theorem State.contractsOk_setRx (c : Carrier) (st : RxState) : (s.setRx c st).contractsOk ↔ s.contractsOk := by
  unfold State.setRx; split <;> simp

@[simp] theorem State.contractsOk_lossOfSync (c : Carrier) : (s.lossOfSync c).contractsOk ↔ s.contractsOk := by
  unfold State.lossOfSync
  dsimp only
  split <;> simp

@[simp] theorem State.contractsOk_toHunt (c : Carrier) : (s.toHunt c).contractsOk ↔ s.contractsOk := by
  unfold State.toHunt
  dsimp only
  split <;> simp

/-- Entry to OFF clears the adaptation record but for its Profile Table (R64). -/
@[simp] theorem State.contractsOk_clearAtOff (c : Carrier) :
    (s.onAdapt c Adaptation.clearAtOff).contractsOk ↔ s.contractsOk := s.contractsOk_onAdapt c _ fun _ => rfl

@[simp] theorem State.contractsOk_enterOff (c : Carrier) : (s.enterOff c).contractsOk ↔ s.contractsOk := by
  cases c <;> simp [State.enterOff]

@[simp] theorem State.contractsOk_stopCarrier (c : Carrier) : (s.stopCarrier c).contractsOk ↔ s.contractsOk := by
  unfold State.stopCarrier; split <;> simp

@[simp] theorem State.contractsOk_carrierStart (sheet : SheetIx) (params : List Word) :
    (s.carrierStart sheet params).contractsOk ↔ s.contractsOk := by
  unfold State.carrierStart
  split
  · simp
  · split <;> simp

@[simp] theorem State.contractsOk_carrierStop (sheet : SheetIx) (params : List Word) :
    (s.carrierStop sheet params).contractsOk ↔ s.contractsOk := by
  unfold State.carrierStop; split <;> simp

@[simp] theorem State.contractsOk_drainEnd (c : Carrier) : (s.drainEnd c).contractsOk ↔ s.contractsOk := by
  unfold State.drainEnd; split <;> simp

@[simp] theorem State.contractsOk_headerLost (c : Carrier) : (s.headerLost c).contractsOk ↔ s.contractsOk := by
  unfold State.headerLost; split <;> simp

@[simp] theorem State.contractsOk_missCounted (c : Carrier) : (s.missCounted c).contractsOk ↔ s.contractsOk := by
  unfold State.missCounted
  dsimp only
  split
  · simp
  · split <;> simp

@[simp] theorem State.contractsOk_receiveBad (c : Carrier) : (s.receiveBad c).contractsOk ↔ s.contractsOk := by
  unfold State.receiveBad; split <;> simp

@[simp] theorem State.contractsOk_startedToRunning (c : Carrier) :
    (s.startedToRunning c).contractsOk ↔ s.contractsOk := by
  unfold State.startedToRunning; split <;> simp

@[simp] theorem State.contractsOk_receiveGood (c : Carrier) (n : Word) :
    (s.receiveGood c n).1.contractsOk ↔ s.contractsOk := by
  unfold State.receiveGood
  dsimp only
  split
  · simp
  · split
    · split <;> simp
    · simp
  all_goals split <;> simp

@[simp] theorem State.contractsOk_missed (c : Carrier) : (s.missed c).contractsOk ↔ s.contractsOk := by
  unfold State.missed
  split
  · dsimp only
    split <;> simp
  · rfl

end Carriers

/-! ### Time base and servo (chapters 8 and 9) -/

section Timing
variable (s : State)

@[simp] theorem State.contractsOk_rateCommand (r : Int) : (s.rateCommand r).contractsOk ↔ s.contractsOk := Iff.rfl

@[simp] theorem State.contractsOk_putOffStart : s.putOffStart.contractsOk ↔ s.contractsOk := by
  unfold State.putOffStart; split <;> rfl

@[simp] theorem State.contractsOk_afterStep : s.afterStep.contractsOk ↔ s.contractsOk := by simp [State.afterStep]

@[simp] theorem State.contractsOk_stepCommand (offset : Int) : (s.stepCommand offset).contractsOk ↔ s.contractsOk := by
  unfold State.stepCommand; split <;> simp

@[simp] theorem State.contractsOk_secondsSetting (v : Seconds) :
    (s.secondsSetting v).contractsOk ↔ s.contractsOk := by
  unfold State.secondsSetting; split <;> simp

@[simp] theorem State.contractsOk_refreshClass : s.refreshClass.contractsOk ↔ s.contractsOk := by
  unfold State.refreshClass
  dsimp only
  split <;> simp

@[simp] theorem State.contractsOk_setTimingState (st : TimingState) :
    (s.setTimingState st).contractsOk ↔ s.contractsOk := by
  unfold State.setTimingState; split <;> simp

@[simp] theorem State.contractsOk_exchange (x : Exchange) : (s.exchange x).contractsOk ↔ s.contractsOk := by
  unfold State.exchange; split <;> simp

@[simp] theorem State.contractsOk_selectSource : s.selectSource.contractsOk ↔ s.contractsOk := by
  unfold State.selectSource
  dsimp only
  split <;> simp

@[simp] theorem State.contractsOk_loseSource : s.loseSource.contractsOk ↔ s.contractsOk := by
  unfold State.loseSource; split <;> simp

@[simp] theorem State.contractsOk_countSample (theta : Int) : (s.countSample theta).contractsOk ↔ s.contractsOk := by
  unfold State.countSample
  dsimp only
  split <;> simp [apply_ite State.contractsOk]

@[simp] theorem State.contractsOk_moveState (theta : Option Int) : (s.moveState theta).contractsOk ↔ s.contractsOk := by
  unfold State.moveState
  cases theta with
  | none => dsimp only; split <;> simp
  | some x => dsimp only; split <;> simp

@[simp] theorem State.contractsOk_servoUpdate (theta : Int) : (s.servoUpdate theta).contractsOk ↔ s.contractsOk := by
  unfold State.servoUpdate
  dsimp only
  split <;> simp

@[simp] theorem State.contractsOk_secondEnd : s.secondEnd.contractsOk ↔ s.contractsOk := by
  unfold State.secondEnd
  dsimp only
  rw [State.contractsOk_refreshClass]
  split <;> simp

@[simp] theorem State.contractsOk_wholeSecond : s.wholeSecond.contractsOk ↔ s.contractsOk := by
  unfold State.wholeSecond; split <;> simp

@[simp] theorem State.contractsOk_spendHoldover : s.spendHoldover.contractsOk ↔ s.contractsOk := by
  unfold State.spendHoldover; split <;> simp

@[simp] theorem State.contractsOk_answerLabel (l : PendingLabel) (code : AnswerCode) :
    (s.answerLabel l code).contractsOk ↔ s.contractsOk := by
  unfold State.answerLabel; split <;> simp

@[simp] theorem State.contractsOk_settleLabel (c : Stamp) : (s.settleLabel c).contractsOk ↔ s.contractsOk := by
  unfold State.settleLabel
  split
  · rfl
  · dsimp only
    split <;> simp

@[simp] theorem State.contractsOk_gnssPulse : s.gnssPulse.contractsOk ↔ s.contractsOk := by
  unfold State.gnssPulse; split <;> simp

@[simp] theorem State.contractsOk_gnssLabel (sheet : SheetIx) (params : List Word) :
    (s.gnssLabel sheet params).contractsOk ↔ s.contractsOk := by
  unfold State.gnssLabel
  split
  · split
    · simp
    · split <;> simp
  · simp

@[simp] theorem State.contractsOk_timingSet (sheet : SheetIx) (params : List Word) :
    (s.timingSet sheet params).contractsOk ↔ s.contractsOk := by
  unfold State.timingSet
  split
  · dsimp only
    rw [State.contractsOk_answer]
    split <;> split <;> simp
  · simp

@[simp] theorem State.contractsOk_ppsInstant (i : PpsOut) : (s.ppsInstant i).contractsOk ↔ s.contractsOk := by
  unfold State.ppsInstant; split <;> simp

@[simp] theorem State.contractsOk_ppsEnd (i : PpsOut) : (s.ppsEnd i).contractsOk ↔ s.contractsOk := Iff.rfl

@[simp] theorem State.contractsOk_makeDueInstant (i : PpsOut) :
    (s.makeDueInstant i).contractsOk ↔ s.contractsOk := by
  unfold State.makeDueInstant; split <;> simp

@[simp] theorem State.contractsOk_ppsSet (sheet : SheetIx) (params : List Word) :
    (s.ppsSet sheet params).contractsOk ↔ s.contractsOk := by
  unfold State.ppsSet
  split
  · simp
  · dsimp only
    split <;> simp

@[simp] theorem State.contractsOk_portNotice (p : Port) : (s.portNotice p).contractsOk ↔ s.contractsOk := by
  unfold State.portNotice
  split
  · rfl
  · dsimp only
    split <;> simp

@[simp] theorem State.contractsOk_notices : s.notices.contractsOk ↔ s.contractsOk :=
  State.contractsOk_foldl (fun s p => s.contractsOk_portNotice p) allPorts s

end Timing

/-! ### Deliveries (R33, R41) -/

section Delivery
variable (s : State)

@[simp] theorem State.contractsOk_recordFarSync (c : Carrier) (far : Byte) :
    (s.recordFarSync c far).contractsOk ↔ s.contractsOk := by
  unfold State.recordFarSync; split <;> simp

@[simp] theorem State.contractsOk_takeDemand (demand : Vector (BitVec 16) 8) :
    (s.takeDemand demand).contractsOk ↔ s.contractsOk := Iff.rfl

@[simp] theorem State.contractsOk_takeAnswerIfAny (c : Carrier) (h : InHeader) (t4 : Stamp) :
    (s.takeAnswerIfAny c h t4).contractsOk ↔ s.contractsOk := by
  unfold State.takeAnswerIfAny State.takeAnswer
  split
  · rfl
  · split <;> simp

@[simp] theorem State.contractsOk_acceptHeader (c : Carrier) (h : InHeader) (slots : List InSlot) (t4 : Stamp) :
    (s.acceptHeader c h slots t4).contractsOk ↔ s.contractsOk := by
  unfold State.acceptHeader
  dsimp only
  split <;> simp

@[simp] theorem State.contractsOk_deliver (c : Carrier) (d : Delivery) : (s.deliver c d).contractsOk ↔ s.contractsOk := by
  unfold State.deliver
  split
  · rfl
  · dsimp only
    split
    · split <;> simp [State.restartMissTimer]
    · simp [State.restartMissTimer]

end Delivery

/-! ### Reports (R16, R19) -/

section Reports
variable (s : State)

@[simp] theorem State.contractsOk_standUp (sheet : SheetIx) (kind : ReportKind) (period group : Nat)
    (code : AnswerCode) : (s.standUp sheet kind period group code).contractsOk ↔ s.contractsOk := Iff.rfl

@[simp] theorem State.contractsOk_standingOrder (sheet : SheetIx) (params : List Word) :
    (s.standingOrder sheet params).contractsOk ↔ s.contractsOk := by
  unfold State.standingOrder
  split
  · simp
  · dsimp only
    split
    · simp
    · split
      · simp
      · split <;> simp

@[simp] theorem State.contractsOk_readOrder (sheet : SheetIx) (params : List Word) :
    (s.readOrder sheet params).contractsOk ↔ s.contractsOk := by
  unfold State.readOrder
  split
  · split <;> simp
  · simp

@[simp] theorem State.contractsOk_hostRead (be : BitVec 4) (offset : Nat) :
    (s.hostRead be offset).contractsOk ↔ s.contractsOk := by
  rw [State.hostRead_eq]; rfl

end Reports

/-! ### The plan point: the debts (R105)

A target is met by the first slot that reaches it, so what is assigned beyond it is less than one slot, 448 bytes at most
(R48). Every other new debt is no more than the old one. -/

/-- The greatest slot payload is that of P7 (R48). -/
theorem State.payload_le {s : State} (h : s.contractsOk) (c : Carrier) (p : Profile) : s.payload c p ≤ 448 := by
  have table : ∀ q : Profile, profileTableReset[q].payload ≤ 448 := by decide
  exact Nat.le_trans (Nat.le_of_eq (h.1 c p)) (table p)

/-- Every slot of a list carries at most 448 bytes. -/
def SlotsBounded (slots : List (Carrier × Nat)) : Prop := ∀ x ∈ slots, x.2 ≤ 448

theorem slotsBounded_append {xs ys : List (Carrier × Nat)} (hx : SlotsBounded xs) (hy : SlotsBounded ys) :
    SlotsBounded (xs ++ ys) := fun x h => (List.mem_append.mp h).elim (hx x) (hy x)

/-- The data slots of an open carrier carry the payload of its committed profile (R97). -/
theorem State.bytes_of_standing_opened {s : State} {w : Way} {c : Carrier} {k bytes : Nat}
    (e : s.standing w c = .opened k bytes) : bytes = s.payload c (s.planProfile w c) := by
  unfold State.standing at e
  dsimp only at e
  repeat' split at e
  all_goals cases e
  rfl

theorem State.dataSlots_bounded {s : State} (h : s.contractsOk) (w : Way) (c d : Carrier) :
    SlotsBounded ((s.standing w c).dataSlots d) := by
  intro x hx
  cases e : s.standing w c with
  | opened k bytes =>
    rw [e, Standing.dataSlots] at hx
    rw [List.eq_of_mem_replicate hx, State.bytes_of_standing_opened e]
    exact s.payload_le h c _
  | absent | idle | test | closed k => rw [e] at hx; cases hx

/-- The slots taken for a target assign at most 447 bytes beyond it. -/
theorem takeSlots_total_le (target got : Nat) (slots : List (Carrier × Nat)) (hs : SlotsBounded slots)
    (hg : got ≤ target + 447) : (takeSlots target slots got).2.1 ≤ target + 447 := by
  induction slots generalizing got with
  | nil => exact hg
  | cons x rest ih =>
    obtain ⟨c, bytes⟩ := x
    have hb : bytes ≤ 448 := hs _ (.head _)
    rw [takeSlots]
    split
    · exact hg
    · exact ih _ (fun x hx => hs x (.tail _ hx)) (by omega)

theorem takeSlots_left_bounded (target got : Nat) (slots : List (Carrier × Nat)) (hs : SlotsBounded slots) :
    SlotsBounded (takeSlots target slots got).2.2 := by
  induction slots generalizing got with
  | nil => exact hs
  | cons x rest ih =>
    rw [takeSlots]
    split
    · exact hs
    · exact ih _ fun x hx => hs x (.tail _ hx)

theorem beyond_le {target got : Nat} (h : got ≤ target + 447) : (if target ≤ got then got - target else 0) ≤ 447 := by
  split <;> omega

/-- Stages 4 and 5 leave no debt above 447 where none was (R105). -/
theorem assignSlots_debt_le (ps : List Participant) (slots : List (Carrier × Nat)) (hs : SlotsBounded slots)
    (hp : ∀ p ∈ ps, p.debt ≤ 447) : ∀ x ∈ (assignSlots ps slots).1, x.debt ≤ 447 := by
  induction ps generalizing slots with
  | nil => simp [assignSlots]
  | cons p rest ih =>
    have hrest : ∀ q ∈ rest, q.debt ≤ 447 := fun q hq => hp q (.tail _ hq)
    have hdebt : p.debt ≤ 447 := hp p (.head _)
    rw [assignSlots]
    split
    · exact List.forall_mem_cons.mpr ⟨Nat.zero_le _, ih slots hs hrest⟩
    · split
      · exact List.forall_mem_cons.mpr ⟨by dsimp only; omega, ih slots hs hrest⟩
      · have total := takeSlots_total_le (p.grant - p.debt) 0 slots hs (Nat.zero_le _)
        have left := takeSlots_left_bounded (p.grant - p.debt) 0 slots hs
        exact List.forall_mem_cons.mpr ⟨beyond_le total, ih _ left hrest⟩

/-- The rounds of stage 3 move grants, not debts. -/
theorem excessRounds_debts (fuel left : Nat) (ps : List Participant) :
    (excessRounds fuel left ps).map (·.debt) = ps.map (·.debt) := by
  induction fuel generalizing left ps with
  | zero => rfl
  | succ n ih =>
    rw [excessRounds]
    dsimp only
    split
    · rfl
    · split
      · rw [ih, List.map_map]
        refine List.map_congr_left fun p _ => ?_
        dsimp only [Function.comp]
        split <;> rfl
      · rw [List.map_map]
        refine List.map_congr_left fun p _ => ?_
        dsimp only [Function.comp]
        split <;> rfl

/-- Stages 2 and 3 give grants and leave the debts (R102, R103). -/
theorem grants_debts (a : Nat) (ps : List Participant) : (grants a ps).map (·.debt) = ps.map (·.debt) := by
  rw [grants, excessRounds_debts, List.map_map, committedParts, List.map_map]
  rfl

theorem State.participants_debt_le {s : State} (h : s.contractsOk) (w : Way) :
    ∀ p ∈ s.participants w, p.debt ≤ 447 := by
  intro p hp
  unfold State.participants at hp
  split at hp
  · obtain ⟨t, _, rfl⟩ := List.mem_map.mp hp
    obtain ⟨_, _, _, hout, hin⟩ := h.2 t
    cases w with
    | outbound => exact hout
    | inbound => exact hin
  · cases hp

theorem State.grants_debt_le {s : State} (h : s.contractsOk) (w : Way) (a : Nat) :
    ∀ p ∈ grants a (s.participants w), p.debt ≤ 447 := by
  intro p hp
  have mem : p.debt ∈ (s.participants w).map (·.debt) := grants_debts a _ ▸ List.mem_map_of_mem hp
  obtain ⟨q, hq, e⟩ := List.mem_map.mp mem
  exact e ▸ s.participants_debt_le h w q hq

theorem mem_of_mem_rotation {pointer : Fin 8} {ps : List Participant} {p : Participant} (h : p ∈ rotation pointer ps) :
    p ∈ ps := by
  simp only [rotation, List.mem_append, List.mem_filter] at h
  exact h.elim And.left And.left

/-- The plan of a direction leaves no debt above 447. -/
theorem State.planDirection_debt_le {s : State} (h : s.contractsOk) (w : Way) :
    ∀ x ∈ (s.planDirection w).assigned, x.debt ≤ 447 := by
  have slots := slotsBounded_append (s.dataSlots_bounded h w .a .a) (s.dataSlots_bounded h w .b .b)
  unfold State.planDirection
  dsimp only
  split
  · intro x hx
    obtain ⟨p, hp, rfl⟩ := List.mem_map.mp hx
    exact s.grants_debt_le h w _ p hp
  · exact assignSlots_debt_le _ _ slots fun p hp => s.grants_debt_le h w _ p (mem_of_mem_rotation hp)

theorem DirectionPlan.debtOf_le {p : DirectionPlan} (h : ∀ x ∈ p.assigned, x.debt ≤ 447) (t : Tenant) {kept : Nat}
    (hk : kept ≤ 447) : p.debtOf t kept ≤ 447 := by
  unfold DirectionPlan.debtOf
  split
  · exact hk
  · next x e => exact h x (List.mem_of_find?_eq_some e)

theorem State.contractsOk.planPoint {s : State} (h : s.contractsOk) : s.planPoint.contractsOk := by
  refine ⟨h.1, fun t => ?_⟩
  obtain ⟨committed, peak, weight, hout, hin⟩ := h.2 t
  have contract : s.planPoint.contract t =
      { s.contract t with
        debtOut := (s.planDirection .outbound).debtOf t (s.contract t).debtOut
        debtIn := (s.planDirection .inbound).debtOf t (s.contract t).debtIn } :=
    tableMap_get _ s.shc.contracts t
  rw [contract]
  exact ⟨committed, peak, weight, DirectionPlan.debtOf_le (s.planDirection_debt_le h .outbound) t hout,
    DirectionPlan.debtOf_le (s.planDirection_debt_le h .inbound) t hin⟩

/-! ### Contracts and phases (chapters 5 and 11) -/

section Tenants
variable {s : State}

/-- TENANT_SET writes a clamped contract, whose debts are those of the contract it found (R82). -/
theorem State.contractsOk.tenantSet (h : s.contractsOk) (sheet : SheetIx) (params : List Word) :
    (s.tenantSet sheet params).contractsOk := by
  unfold State.tenantSet
  split
  · exact h
  · next t _ =>
    dsimp only
    have found : (if (s.contract t).state = .vacant then Contract.reset else s.contract t).clamped := by
      split
      · exact Contract.clamped_reset
      · exact h.2 t
    generalize (if (s.contract t).state = .vacant then Contract.reset else s.contract t) = base at found ⊢
    have written (raw : Contract) (ho : raw.debtOut = base.debtOut) (hi : raw.debtIn = base.debtIn) :
        (s.onContract t fun _ => clampContract raw).contractsOk := h.onContract (clampContract_clamped found raw ho hi)
    split
    · split
      · exact h
      · split
        · exact h
        · simp only [State.contractsOk_answer, State.contractsOk_compareClass, State.contractsOk_offerAdmission]
          split
          · rw [State.contractsOk_setTenant]; exact written _ rfl rfl
          · exact written _ rfl rfl
    · exact h

@[simp] theorem State.contractsOk_clearNaming (t : Tenant) : (s.clearNaming t).contractsOk ↔ s.contractsOk := Iff.rfl

/-- A tenant that reaches VACANT has the reset contract (R90). -/
theorem State.contractsOk.vacate (h : s.contractsOk) (t : Tenant) : (s.vacate t).contractsOk := by
  rw [State.vacate, State.contractsOk_huntStream, State.contractsOk_clearNaming]
  exact ((s.contractsOk_setTenant t .vacant).2 h).onContract Contract.clamped_reset

theorem State.contractsOk.retirementTest (h : s.contractsOk) (t : Tenant) : (s.retirementTest t).contractsOk := by
  unfold State.retirementTest
  split
  · exact h.vacate t
  · exact h

theorem State.contractsOk.retire (h : s.contractsOk) (t : Tenant) : (s.retire t).contractsOk := by
  unfold State.retire
  split
  · exact h
  · exact h.vacate t
  · exact ((s.contractsOk_setTenant t .retiring).2 h).retirementTest t
  · exact ((s.contractsOk_setTenant t .retiring).2 h).retirementTest t
  · exact h

theorem State.contractsOk.retirePurge (h : s.contractsOk) (t : Tenant) : (s.retirePurge t).contractsOk := by
  unfold State.retirePurge
  split
  · exact h
  all_goals exact State.contractsOk.vacate (by simpa using h) t

theorem State.contractsOk.retireAll (h : s.contractsOk) : s.retireAll.contractsOk :=
  h.foldl (fun s t hs => by
    split
    · exact hs
    · exact hs.retire t) allTenants

theorem State.contractsOk.purgeRetiring (h : s.contractsOk) : s.purgeRetiring.contractsOk :=
  h.foldl (fun s t hs => by
    split
    · exact hs.retirePurge t
    · exact hs) allTenants

@[simp] theorem State.contractsOk_setPhase (p : Phase) : (s.setPhase p).contractsOk ↔ s.contractsOk := Iff.rfl

theorem State.contractsOk.enterSetup (h : s.contractsOk) : s.enterSetup.contractsOk := by
  unfold State.enterSetup
  simp only [State.contractsOk_stopCarrier]
  split
  · exact State.contractsOk.purgeRetiring (s := s.setPhase .setup) h
  · exact h

theorem State.contractsOk.autoReturn (h : s.contractsOk) : s.autoReturn.contractsOk := by
  unfold State.autoReturn
  split
  · exact h.enterSetup
  · exact h

theorem State.contractsOk.enterPhase (h : s.contractsOk) (p : Phase) : (s.enterPhase p).contractsOk := by
  cases p with
  | setup => exact h.enterSetup
  | align | commission => exact h
  | service => exact (State.contractsOk_admissionEvent (s.setPhase .service)).2 h
  | windDown => exact (State.contractsOk.retireAll (s := s.setPhase .windDown) h).autoReturn

theorem State.contractsOk.tenantRetire (h : s.contractsOk) (sheet : SheetIx) (params : List Word) :
    (s.tenantRetire sheet params).contractsOk := by
  unfold State.tenantRetire
  split
  · rw [State.contractsOk_answer]
    refine State.contractsOk.autoReturn ?_
    split
    · exact h.retirePurge _
    · exact h.retire _
  · exact h

theorem State.contractsOk.phaseOrder (h : s.contractsOk) (sheet : SheetIx) (params : List Word) :
    (s.phaseOrder sheet params).contractsOk := by
  unfold State.phaseOrder
  split
  · next target flag _ _ =>
    have gated : ((s.onPhc fun p => { p with gateFlag := flag }).recomputeGate).contractsOk := h
    dsimp only
    split
    · rw [State.contractsOk_answer]
      split
      · exact gated
      · exact gated.enterPhase target
    · exact h
  · exact h

end Tenants

/-! ### Aging, slots and superframes (sections 2.2, 2.3, 7.1): a frame that leaves may retire its tenant (R89) -/

section Fill
variable {s : State}

theorem State.contractsOk.afterRemoval (h : s.contractsOk) (owner : Option Tenant) :
    (s.afterRemoval owner).contractsOk := by
  cases owner with
  | none => exact h
  | some t => exact h.retirementTest t

theorem State.contractsOk.ageChannel (h : s.contractsOk) (n : Word) (ch : Channel) (fuel : Nat) :
    (s.ageChannel n ch fuel).contractsOk := by
  induction fuel generalizing s with
  | zero => exact h
  | succ k ih =>
    rw [State.ageChannel]
    split
    · exact ih (State.contractsOk.afterRemoval (by simpa using h) _)
    · exact h

theorem State.contractsOk.age (h : s.contractsOk) : s.age.contractsOk :=
  (h.foldl (fun _ ch hs => hs.ageChannel _ ch _) hostChannels).autoReturn

theorem State.contractsOk.frameSent (h : s.contractsOk) (t : Tenant) (ch : Channel) :
    (s.frameSent t ch).contractsOk := State.contractsOk.afterRemoval (by simpa using h) _

theorem State.contractsOk.writeFrames (h : s.contractsOk) (t : Tenant) (fuel room : Nat) :
    (s.writeFrames t fuel room).2.contractsOk := by
  induction fuel generalizing room s with
  | zero => exact h
  | succ k ih =>
    rw [State.writeFrames]
    split
    · exact h
    · split
      · exact h
      · split
        · exact h
        · dsimp only
          split
          · exact ih (State.contractsOk.frameSent (by simpa using h) t _) _
          · exact h

theorem State.contractsOk.fillTenantSlot (h : s.contractsOk) (t : Tenant) (payload : Nat) :
    (s.fillTenantSlot t payload).2.contractsOk := by
  unfold State.fillTenantSlot
  split
  · exact h.writeFrames t payload payload
  · dsimp only
    split
    · exact (h.frameSent t _).writeFrames t payload _
    · exact h

theorem State.contractsOk.fillSlots (h : s.contractsOk) (payload : Nat) (owners : List SlotOwner)
    (tests : List (List Byte)) : (s.fillSlots payload owners tests).2.contractsOk := by
  induction owners generalizing tests s with
  | nil => exact h
  | cons o rest ih =>
    cases o with
    | tenant t => exact ih (h.fillTenantSlot t payload) tests
    | test => exact ih h tests.tail
    | idle => exact ih h tests

theorem State.contractsOk.fillCarrier (h : s.contractsOk) (c : Carrier) : (s.fillCarrier c).2.contractsOk := by
  unfold State.fillCarrier
  split
  · exact h
  · split
    · exact h
    · exact State.contractsOk.fillSlots ((s.contractsOk_testContents c _ _).2 h) _ _ _

@[simp] theorem State.contractsOk_sendSuperframe (c : Carrier) (slots : Option (List (List Byte))) :
    (s.sendSuperframe c slots).contractsOk ↔ s.contractsOk := by
  unfold State.sendSuperframe
  split
  · rfl
  · dsimp only
    rw [State.contractsOk_onShc _ _ rfl]
    split <;> simp

theorem State.contractsOk.fillAndSend (h : s.contractsOk) : s.fillAndSend.contractsOk := by
  simp only [State.fillAndSend, State.contractsOk_sendSuperframe]
  exact (h.fillCarrier .a).fillCarrier .b

end Fill

/-! ### The Sheet Area (chapter 1) -/

section Sheets
variable (s : State) (r : BusRun)

@[simp] theorem BusRun.access_s : r.access.s = r.s := r.access_cases.1

@[simp] theorem BusRun.contractsOk_write (address : BitVec 64) (bytes : List Byte) :
    (r.write address bytes).s.contractsOk ↔ r.s.contractsOk := by
  rcases r.write_state address bytes with e | e <;> simp [e]

@[simp] theorem BusRun.contractsOk_andThen (f : State → State) (hf : ∀ s, (f s).contractsOk ↔ s.contractsOk) :
    (r.andThen f).s.contractsOk ↔ r.s.contractsOk := by
  unfold BusRun.andThen; split <;> simp [hf]

theorem BusRun.andThen_contractsOk {r : BusRun} (h : r.s.contractsOk) {f : State → State}
    (hf : ∀ s, s.contractsOk → (f s).contractsOk) : (r.andThen f).s.contractsOk := by
  unfold BusRun.andThen
  split
  · exact hf _ h
  · exact h

@[simp] theorem State.contractsOk_withdraw (sheet : SheetIx) : (s.withdraw sheet).contractsOk ↔ s.contractsOk := by
  unfold State.withdraw
  split
  · rfl
  · exact s.contractsOk_dropTest sheet

@[simp] theorem State.contractsOk_cancelFound (sheet : SheetIx) (found : Byte) :
    (s.cancelFound sheet found).contractsOk ↔ s.contractsOk := by
  unfold State.cancelFound; split <;> rfl

@[simp] theorem State.contractsOk_beginScan : s.beginScan.contractsOk ↔ s.contractsOk := by
  unfold State.beginScan
  repeat' split
  all_goals rfl

@[simp] theorem State.contractsOk_beginPending : s.beginPending.contractsOk ↔ s.contractsOk := by
  unfold State.beginPending
  split
  · exact State.contractsOk_beginScan _
  · rfl

@[simp] theorem State.contractsOk_dropSheetSteps : s.dropSheetSteps.contractsOk ↔ s.contractsOk := Iff.rfl

@[simp] theorem State.contractsOk_raiseFault : s.raiseFault.contractsOk ↔ s.contractsOk := by simp [State.raiseFault]

@[simp] theorem BusRun.contractsOk_finish : r.finish.contractsOk ↔ r.s.contractsOk := by
  unfold BusRun.finish; split <;> simp

@[simp] theorem State.contractsOk_setMask (v : Word) : (s.setMask v).contractsOk ↔ s.contractsOk := by
  unfold State.setMask State.interruptAfter; split <;> rfl

/-! #### Answers, re-reads and rewrites -/

@[simp] theorem State.contractsOk_dropAnswer : s.dropAnswer.contractsOk ↔ s.contractsOk := Iff.rfl

@[simp] theorem State.contractsOk_unhold (sheet : SheetIx) : (s.unhold sheet).contractsOk ↔ s.contractsOk := Iff.rfl

@[simp] theorem BusRun.contractsOk_writeOldest : r.writeOldest.s.contractsOk ↔ r.s.contractsOk := by
  unfold BusRun.writeOldest
  split
  · rfl
  · split
    · simp
    · dsimp only
      split <;> simp [apply_ite BusRun.s, apply_ite State.contractsOk]

@[simp] theorem BusRun.contractsOk_writeAll (n : Nat) : (r.writeAll n).s.contractsOk ↔ r.s.contractsOk := by
  induction n generalizing r with
  | zero => rfl
  | succ n ih => rw [BusRun.writeAll, ih, BusRun.contractsOk_writeOldest]

@[simp] theorem State.contractsOk_writeAnswerStep : s.writeAnswerStep.contractsOk ↔ s.contractsOk := by
  unfold State.writeAnswerStep; split <;> simp [BusRun.start]

@[simp] theorem BusRun.contractsOk_rereadSheet (h : Held) : (r.rereadSheet h).s.contractsOk ↔ r.s.contractsOk := by
  unfold BusRun.rereadSheet
  dsimp only
  split <;> simp

@[simp] theorem BusRun.contractsOk_reread : r.reread.s.contractsOk ↔ r.s.contractsOk := by
  have walk (l : List Held) : (l.foldl BusRun.rereadSheet r).s.contractsOk ↔ r.s.contractsOk := by
    induction l generalizing r with
    | nil => rfl
    | cons x rest ih => rw [List.foldl_cons, ih, BusRun.contractsOk_rereadSheet]
  exact walk _

@[simp] theorem State.contractsOk_rereadTests : s.rereadTests.contractsOk ↔ s.contractsOk := by
  unfold State.rereadTests; split <;> simp [BusRun.start]

@[simp] theorem BusRun.contractsOk_resumeRest : r.resumeRest.s.contractsOk ↔ r.s.contractsOk := by
  unfold BusRun.resumeRest; split <;> simp

@[simp] theorem BusRun.contractsOk_rewrite (e : StandingEntry) (words : List Word) :
    (r.rewrite e words).s.contractsOk ↔ r.s.contractsOk := by
  have kept (edition : Word) (s : State) : ((s.setEdition e.sheet edition).dropRewrite e.sheet).contractsOk
      ↔ s.contractsOk := Iff.rfl
  simp [BusRun.rewrite, kept]

@[simp] theorem State.contractsOk_rewriteStep (sheet : SheetIx) : (s.rewriteStep sheet).contractsOk ↔ s.contractsOk := by
  unfold State.rewriteStep
  split
  · rfl
  · split <;> simp [BusRun.start]

@[simp] theorem State.contractsOk_rewritesFallDue : s.rewritesFallDue.contractsOk ↔ s.contractsOk := by
  unfold State.rewritesFallDue
  split
  · rfl
  · exact State.contractsOk_foldl (f := fun s e => s.rewriteFallsDue e) (fun _ _ => Iff.rfl) _ s

@[simp] theorem State.contractsOk_startScan : s.startScan.contractsOk ↔ s.contractsOk := by
  unfold State.startScan; split <;> simp

@[simp] theorem State.contractsOk_attention : s.attention.contractsOk ↔ s.contractsOk := by
  unfold State.attention
  split
  · simp
  · split
    · rfl
    · simp

@[simp] theorem State.contractsOk_writeBaseHi (v : Word) : (s.writeBaseHi v).contractsOk ↔ s.contractsOk := by
  unfold State.writeBaseHi; split <;> simp

@[simp] theorem State.contractsOk_writeBaseLo (v : Word) : (s.writeBaseLo v).contractsOk ↔ s.contractsOk := by
  unfold State.writeBaseLo; split <;> simp

end Sheets

/-! #### Orders and scans -/

section Orders
variable {s : State}

theorem State.contractsOk.carryOut (h : s.contractsOk) (o : Order) (sheet : SheetIx) (params : List Word) :
    (s.carryOut o sheet params).contractsOk := by
  cases o with
  | phase => exact h.phaseOrder sheet params
  | tenantSet => exact h.tenantSet sheet params
  | tenantRetire => exact h.tenantRetire sheet params
  | carrierStart | carrierStop | profileSet | portSet | channelSet | timingSet | ppsSet | gnssLabel | verdictSet | test
  | testStop | standing | read => simpa [State.carryOut] using h

theorem State.contractsOk.inItsPhases (h : s.contractsOk) (o : Order) (sheet : SheetIx) {act : State → State}
    (hact : (act s).contractsOk) : (s.inItsPhases o sheet act).contractsOk := by
  rcases s.inItsPhases_cases o sheet act with ⟨_, e⟩ | ⟨_, e⟩
  · rw [e]; exact hact
  · rw [e]; exact h

theorem State.contractsOk.checkOrder (h : s.contractsOk) (sheet : SheetIx) (code : Byte) (count : Nat)
    (params : List Word) : (s.checkOrder sheet code count params).contractsOk := by
  unfold State.checkOrder
  split
  · exact h
  · refine h.inItsPhases _ sheet ?_
    split
    · exact h
    · exact h.carryOut _ sheet params

theorem BusRun.takeOrder_contractsOk {r : BusRun} (h : r.s.contractsOk) (base : BitVec 64) (sheet : SheetIx) :
    (r.takeOrder base sheet).s.contractsOk :=
  BusRun.andThen_contractsOk (by simpa using h) fun s hs =>
    State.contractsOk.checkOrder (s := s.hold _) hs sheet _ _ _

theorem BusRun.scanSheet_contractsOk {r : BusRun} (h : r.s.contractsOk) (base : BitVec 64) (sheet : SheetIx) :
    (r.scanSheet base sheet).s.contractsOk := by
  unfold BusRun.scanSheet
  dsimp only
  split
  · exact BusRun.takeOrder_contractsOk (by simpa using h) base sheet
  · simpa using h

theorem BusRun.walk_contractsOk (base : BitVec 64) (sheets : List SheetIx) {r : BusRun} (h : r.s.contractsOk) :
    (sheets.foldl (BusRun.scanSheet base) r).s.contractsOk := by
  induction sheets generalizing r with
  | nil => exact h
  | cons x rest ih => exact ih (BusRun.scanSheet_contractsOk h base x)

theorem State.contractsOk.scanRun (h : s.contractsOk) (left : Option Nat) : (s.scanRun left).s.contractsOk := by
  have begun : (BusRun.start left s).resumeRest.s.contractsOk := (BusRun.contractsOk_resumeRest _).2 h
  unfold State.scanRun
  dsimp only
  split
  · exact begun
  · exact BusRun.walk_contractsOk s.scanBase _ begun

theorem State.contractsOk.scanStep (h : s.contractsOk) : s.scanStep.contractsOk := by
  unfold State.scanStep
  split
  · exact h
  · dsimp only
    split
    · exact (State.contractsOk_beginPending _).2 (h.scanRun none)
    · exact (State.contractsOk_raiseFault _).2 (h.scanRun none)

theorem State.contractsOk.sheetWork (h : s.contractsOk) (work : SheetWork) (left : Nat) :
    (s.sheetWork work left).s.contractsOk := by
  cases work with
  | scan => exact h.scanRun (some left)
  | answer => exact (BusRun.contractsOk_writeOldest _).2 h
  | reread => exact (BusRun.contractsOk_reread _).2 h
  | rewrite sheet =>
    unfold State.sheetWork
    dsimp only
    split
    · exact h
    · exact (BusRun.contractsOk_rewrite _ _ _).2 h
  | resume => exact (BusRun.contractsOk_resumeRest _).2 h

theorem State.contractsOk.brokenOff (h : s.contractsOk) (work : SheetWork) (made : Nat) :
    (s.brokenOff work made).contractsOk := by
  unfold State.brokenOff
  split
  · exact h.sheetWork work made
  · exact h

theorem State.contractsOk.requestRestart (h : s.contractsOk) (v : Word) : (s.requestRestart v).contractsOk := by
  have broken : s.breakOff.contractsOk := by
    rcases s.breakOff_cases with ⟨_, e⟩ | ⟨work, made, _, e⟩
    · rw [e]; exact h
    · rw [e]; exact State.contractsOk.brokenOff (s := s.draw) h work made
  unfold State.requestRestart
  split
  · exact broken
  · exact h

theorem State.contractsOk.busErrorStep (h : s.contractsOk) (work : SheetWork) (left : Nat) :
    (s.busErrorStep work left).contractsOk := by
  unfold State.busErrorStep
  split
  · exact (State.contractsOk_raiseFault _).2 (h.sheetWork work left)
  · exact h

end Orders

/-! ### Resets (R24, R25) -/

section Restart
variable {s : State}

theorem Shc.contract_reset (t : Tenant) : Shc.reset.contracts[t] = Contract.reset := by
  simp [Shc.reset]

/-- Power-on reset leaves the Profile Tables and contracts of R48 and R81. -/
theorem State.contractsOk_powerOn (s : State) (fitted : Bool) : (s.powerOn fitted).contractsOk := by
  refine ⟨fun c p => by cases c <;> rfl, fun t => ?_⟩
  have contract : (s.powerOn fitted).contract t = Contract.reset := Shc.contract_reset t
  rw [contract]
  exact Contract.clamped_reset

/-- A soft restart keeps the Profile Tables (R64) and resets the contracts (R113). -/
theorem State.contractsOk.restartValues (h : s.contractsOk) : s.restartValues.contractsOk := by
  refine ⟨fun c p => ?_, fun t => ?_⟩
  · cases c with
    | a => exact h.1 .a p
    | b => exact h.1 .b p
  · have contract : s.restartValues.contract t = Contract.reset := Shc.contract_reset t
    rw [contract]
    exact Contract.clamped_reset

theorem State.contractsOk.softRestartStep (h : s.contractsOk) : s.softRestartStep.contractsOk := by
  unfold State.softRestartStep
  split
  · exact (State.contractsOk_beginPending _).2 h.restartValues
  · exact h

end Restart

/-! ### The clock (R26 to R28, R129, R131) -/

section Clock
variable {s : State}

theorem State.contractsOk.superframeStart (h : s.contractsOk) : s.superframeStart.contractsOk := by
  simp only [State.superframeStart, State.contractsOk_rewritesFallDue, State.contractsOk_startScan]
  refine State.contractsOk.autoReturn (State.contractsOk.fillAndSend ?_)
  simp only [State.contractsOk_tryHeads, State.contractsOk_rereadTests]
  exact h

theorem State.contractsOk.profilePointStep (h : s.contractsOk) : s.profilePointStep.contractsOk := by
  simpa [State.profilePointStep] using h

/-- Every step of the part's own keeps the invariant. -/
theorem State.contractsOk.perform (h : s.contractsOk) (c : Instr) : (s.perform c).contractsOk := by
  have settled : (s.settle c).contractsOk := h
  cases c with
  | softRestart env => exact settled.softRestartStep
  | scan env => exact settled.scanStep
  | superframeStart env => exact settled.superframeStart
  | profilePoint env => exact settled.profilePointStep
  | planPoint env => exact settled.planPoint
  | aging env => exact settled.age
  | _ => simpa [State.perform] using h

theorem State.contractsOk.takeTimed (h : s.contractsOk) (fuel : Nat) : (s.takeTimed fuel).contractsOk := by
  induction fuel generalizing s with
  | zero => exact h
  | succ n ih =>
    rw [State.takeTimed]
    split
    · exact h
    · exact ih (h.perform _)

@[simp] theorem State.contractsOk_tick (s : State) : s.tick.contractsOk ↔ s.contractsOk := by
  rw [s.tick_frame.1]; rfl

theorem State.contractsOk.elapse (h : s.contractsOk) (n : Nat) : (s.elapse n).contractsOk := by
  induction n generalizing s with
  | zero => exact h
  | succ n ih => exact ih ((State.contractsOk_tick _).2 (h.takeTimed _))

theorem State.contractsOk.outside (h : s.contractsOk) (o : Outside) : (s.outside o).contractsOk := by
  cases o with
  | ticks n => exact h.elapse n
  | registerRead be offset => exact (s.contractsOk_hostRead be offset).2 h
  | hostByte | portLink | busMaster | interrupts => exact h

theorem State.contractsOk.enter (h : s.contractsOk) (env : List Outside) (c : Instr) : (s.enter env c).contractsOk :=
  h.foldl (fun _ o hs => hs.outside o) env

end Clock

/-! ### The commands -/

/-- An order as its command carries it out. -/
theorem State.contractsOk.order {s : State} (h : s.contractsOk) (c : Instr) (o : Order) (sheet : SheetIx)
    (params : List Word) :
    ((s.settle c).inItsPhases o sheet (State.carryOut o sheet params)).contractsOk :=
  State.contractsOk.inItsPhases (s := s.settle c) h o sheet (State.contractsOk.carryOut (s := s.settle c) h o sheet params)

/-- A command leaves the invariant in the state it answers. -/
theorem exec_keeps_contractsOk (c : Instr) {s : State} (h : s.contractsOk) :
    ∃ t, exec c s = .next t ∧ t.contractsOk := by
  have entered (env : List Outside) : (s.enter env c).contractsOk := h.enter env c
  cases c with
  | powerOnReset fitted => exact ⟨_, rfl, s.contractsOk_powerOn fitted⟩
  | sheetBaseHiWrite be v => exact ⟨_, rfl, by simpa using h⟩
  | sheetBaseLoWrite be v => exact ⟨_, rfl, by simpa using h⟩
  | attentionWrite env v => exact ⟨_, rfl, by simpa using entered env⟩
  | eventsRead be => exact ⟨_, rfl, by simpa using h⟩
  | eventMaskWrite be v => exact ⟨_, rfl, by simpa using h⟩
  | restartWrite be v => exact ⟨_, rfl, h.requestRestart _⟩
  | registerWriteIgnored o v => exact ⟨_, rfl, h⟩
  | softRestart env => exact ⟨_, rfl, (entered env).softRestartStep⟩
  | scan env => exact ⟨_, rfl, (entered env).scanStep⟩
  | busError env work n => exact ⟨_, rfl, (entered env).busErrorStep work n⟩
  | superframeStart env => exact ⟨_, rfl, (entered env).superframeStart⟩
  | profilePoint env => exact ⟨_, rfl, (entered env).profilePointStep⟩
  | planPoint env => exact ⟨_, rfl, (entered env).planPoint⟩
  | aging env => exact ⟨_, rfl, (entered env).age⟩
  | phase | carrierStart | carrierStop | profileSet | portSet | channelSet | tenantSet | tenantRetire | timingSet | ppsSet
  | gnssLabel | verdictSet | test | testStop | standing | read => exact ⟨_, rfl, h.order _ _ _ _⟩
  | writeAnswer env | standingRewrite env | drainEnd env | delivery env | miss env | carrierBWaitExpiry env | arrival env
  | halfSecondMark env | wholeSecondMark env | timeCheckCompletion env | holdoverLimitExpiry env | gnssEdge env
  | ppsPulseInstant env | ppsPulseEnd env | sweepSample env | noLoop env | berDurationEnd env | delayCalTimeout env =>
    exact ⟨_, rfl, by simpa using entered env⟩

/-- A step leaves the invariant in the state it answers. -/
theorem step_keeps_contractsOk {s : State} (h : s.contractsOk) : ∃ t, step s = .next t ∧ t.contractsOk := by
  unfold step
  split
  · next c rest _ => exact exec_keeps_contractsOk c (s := { s with pending := rest }) h
  · split
    · next c _ _ => exact exec_keeps_contractsOk c h
    · exact ⟨_, rfl, h.elapse 1⟩

/-- Settles O60: every function of the model either leaves the contracts' numbers and the slot payloads or writes clamped
ones, up to the step. -/
theorem contractsStayClamped : Obligations.ContractsStayClamped := by
  unfold Obligations.ContractsStayClamped
  intro s t h answered
  obtain ⟨u, hu, kept⟩ := step_keeps_contractsOk h
  cases answered.symm.trans hu
  exact kept

end Sys2Proof.Machine
end

section
/-! The share computation (R101 to R104): stages 2 and 3 give out no more than the available bytes, and no participant more
than its demand or its peak. -/

namespace Sys2Proof.Machine

/-! ### Floors of parts -/

/-- The floors of the parts of `n`, in proportion `w x` to `whole`, sum to at most `n` (R104). -/
theorem sum_mul_div_le {α : Type} (n whole : Nat) (w : α → Nat) (xs : List α) (h : (xs.map w).sum ≤ whole) :
    (xs.map fun x => n * w x / whole).sum ≤ n := by
  have floors : (xs.map fun x => n * w x / whole).sum ≤ n * (xs.map w).sum / whole := by
    clear h
    induction xs with
    | nil => simp
    | cons x rest ih =>
      simp only [List.map_cons, List.sum_cons, Nat.mul_add]
      exact Nat.le_trans (Nat.add_le_add_left ih _) Nat.div_add_div_le_add_div
  exact Nat.le_trans floors (Nat.div_le_of_le_mul (by rw [Nat.mul_comm]; exact Nat.mul_le_mul_right n h))

/-! ### Stage 2 (R102) -/

/-- The committed parts sum to at most the available bytes. -/
theorem grantSum_committedParts_le (a : Nat) (ps : List Participant) : grantSum (committedParts a ps) ≤ a := by
  rw [grantSum, committedParts, List.map_map]
  by_cases scaled : a < (ps.map fun p => min p.committed p.demand).sum
  · simpa only [Function.comp_def, if_pos scaled, Nat.mul_comm] using
      sum_mul_div_le a _ (fun p : Participant => min p.committed p.demand) ps (Nat.le_refl _)
  · simpa only [Function.comp_def, if_neg scaled] using Nat.not_lt.mp scaled

/-- A scaled part is no more than the part before scaling. -/
theorem committedPart_le (a total g : Nat) : (if a < total then g * a / total else g) ≤ g := by
  split
  · next h => exact Nat.div_le_of_le_mul (by rw [Nat.mul_comm]; exact Nat.mul_le_mul_right g (Nat.le_of_lt h))
  · exact Nat.le_refl _

/-! ### A round of stage 3 (R103) -/

/-- ΣW of a round. -/
def eligibleWeight (ps : List Participant) : Nat := ((ps.filter (·.eligible)).map (·.weight)).sum

/-- The floor of a participant's part of the excess that a round begins with. -/
def Participant.share (left : Nat) (ps : List Participant) (p : Participant) : Nat := left * p.weight / eligibleWeight ps

/-- The participants that a round of type (2) gives their residual. -/
def Participant.capped (left : Nat) (ps : List Participant) (p : Participant) : Bool :=
  p.eligible && decide (p.residual ≤ p.share left ps)

/-- What a round of type (2) gives out. -/
def cappedBytes (left : Nat) (ps : List Participant) : Nat := ((ps.filter (·.capped left ps)).map (·.residual)).sum

/-- A participant after a round of type (2). -/
def Participant.afterCap (left : Nat) (ps : List Participant) (p : Participant) : Participant :=
  if p.capped left ps then { p with grant := p.grant + p.residual, eligible := false } else p

/-- A participant after a round of type (3). -/
def Participant.afterShare (left : Nat) (ps : List Participant) (p : Participant) : Participant :=
  if p.eligible then { p with grant := p.grant + p.share left ps } else p

/-- A round ends the stage, or caps participants and goes on, or shares what is left. -/
theorem excessRounds_succ (fuel left : Nat) (ps : List Participant) :
    excessRounds (fuel + 1) left ps =
      if left = 0 ∨ !(ps.any (·.eligible)) then ps
      else if ps.any (·.capped left ps) then
        excessRounds fuel (left - cappedBytes left ps) (ps.map (·.afterCap left ps))
      else ps.map (·.afterShare left ps) := rfl

/-! #### What a round gives out -/

/-- The shares of the eligible participants sum to at most what the round begins with. -/
theorem sum_share_le (left : Nat) (ps : List Participant) :
    ((ps.filter (·.eligible)).map (·.share left ps)).sum ≤ left :=
  sum_mul_div_le left (eligibleWeight ps) Participant.weight _ (Nat.le_refl _)

/-- Picking more participants and counting more for each gives no smaller a sum. -/
theorem sum_filter_map_le {q r : Participant → Bool} {x y : Participant → Nat} (h : ∀ p, q p → r p ∧ x p ≤ y p)
    (ps : List Participant) : ((ps.filter q).map x).sum ≤ ((ps.filter r).map y).sum := by
  induction ps with
  | nil => exact Nat.le_refl _
  | cons p rest ih =>
    by_cases picked : q p
    · obtain ⟨also, more⟩ := h p picked
      rw [List.filter_cons_of_pos picked, List.filter_cons_of_pos also, List.map_cons, List.map_cons, List.sum_cons,
        List.sum_cons]
      exact Nat.add_le_add more ih
    · rw [List.filter_cons_of_neg picked, List.filter_cons]
      split
      · rw [List.map_cons, List.sum_cons]
        exact Nat.le_add_left_of_le ih
      · exact ih

/-- The participants capped in a round are eligible, and their residuals are within their shares. -/
theorem Participant.of_capped {left : Nat} {ps : List Participant} {p : Participant} (h : p.capped left ps) :
    p.eligible ∧ p.residual ≤ p.share left ps := by
  simpa only [Participant.capped, Bool.and_eq_true, decide_eq_true_eq] using h

/-- A round of type (2) gives out at most what it begins with. -/
theorem cappedBytes_le (left : Nat) (ps : List Participant) : cappedBytes left ps ≤ left :=
  Nat.le_trans (sum_filter_map_le (fun _ => Participant.of_capped) ps) (sum_share_le left ps)

/-- Raising the grants of the participants that `q` picks raises the sum of grants by as much. -/
theorem grantSum_map (q : Participant → Bool) (x : Participant → Nat) (f : Participant → Participant)
    (hf : ∀ p, (f p).grant = if q p then p.grant + x p else p.grant) (ps : List Participant) :
    grantSum (ps.map f) = grantSum ps + ((ps.filter q).map x).sum := by
  induction ps with
  | nil => rfl
  | cons p rest ih =>
    simp only [grantSum, List.map_cons, List.sum_cons, hf, List.filter_cons] at ih ⊢
    rw [ih]
    split
    · rw [List.map_cons, List.sum_cons]; omega
    · omega

theorem grantSum_afterCap (left : Nat) (ps : List Participant) :
    grantSum (ps.map (·.afterCap left ps)) = grantSum ps + cappedBytes left ps :=
  grantSum_map _ _ _ (fun p => by rw [Participant.afterCap]; split <;> rfl) ps

theorem grantSum_afterShare (left : Nat) (ps : List Participant) :
    grantSum (ps.map (·.afterShare left ps)) = grantSum ps + ((ps.filter (·.eligible)).map (·.share left ps)).sum :=
  grantSum_map _ _ _ (fun p => by rw [Participant.afterShare]; split <;> rfl) ps

/-- Stage 3 gives out at most the excess. -/
theorem grantSum_excessRounds_le (fuel left : Nat) (ps : List Participant) :
    grantSum (excessRounds fuel left ps) ≤ grantSum ps + left := by
  induction fuel generalizing left ps with
  | zero => exact Nat.le_add_right _ _
  | succ fuel ih =>
    rw [excessRounds_succ]
    split
    · exact Nat.le_add_right _ _
    · split
      · have rest := ih (left - cappedBytes left ps) (ps.map (·.afterCap left ps))
        have spent := cappedBytes_le left ps
        rw [grantSum_afterCap] at rest
        omega
      · rw [grantSum_afterShare]
        exact Nat.add_le_add_left (sum_share_le left ps) _

/-! #### What a round leaves of each participant -/

/-- `q` is `p` after rounds of stage 3: the same tenant and inputs, and where its grant has risen it is within the demand and
the peak. -/
structure Participant.RaisedTo (p q : Participant) : Prop where
  tenant : q.tenant = p.tenant
  committed : q.committed = p.committed
  demand : q.demand = p.demand
  peak : q.peak = p.peak
  grant : q.grant ≤ max p.grant (min p.demand p.peak)

theorem Participant.RaisedTo.refl (p : Participant) : p.RaisedTo p := ⟨rfl, rfl, rfl, rfl, Nat.le_max_left _ _⟩

theorem Participant.RaisedTo.trans {p q r : Participant} (first : p.RaisedTo q) (second : q.RaisedTo r) : p.RaisedTo r where
  tenant := second.tenant.trans first.tenant
  committed := second.committed.trans first.committed
  demand := second.demand.trans first.demand
  peak := second.peak.trans first.peak
  grant := by
    have := first.grant
    have := second.grant
    rw [first.demand, first.peak] at this
    omega

/-- A raise within the residual. -/
theorem Participant.raisedTo_add {p : Participant} {x : Nat} (h : x ≤ p.residual) (e : Bool) :
    p.RaisedTo { p with grant := p.grant + x, eligible := e } :=
  ⟨rfl, rfl, rfl, rfl, by dsimp only; unfold Participant.residual at h; omega⟩

theorem Participant.raisedTo_afterCap (left : Nat) (ps : List Participant) (p : Participant) :
    p.RaisedTo (p.afterCap left ps) := by
  unfold Participant.afterCap
  split
  · exact raisedTo_add (Nat.le_refl _) false
  · exact .refl p

/-- Where no participant is capped, the share of an eligible one is below its residual. -/
theorem Participant.raisedTo_afterShare {left : Nat} {ps : List Participant} {p : Participant}
    (h : ¬ p.capped left ps) : p.RaisedTo (p.afterShare left ps) := by
  unfold Participant.afterShare
  split
  · next eligible =>
    simp only [Participant.capped, eligible, Bool.true_and, decide_eq_true_eq, Nat.not_le] at h
    exact raisedTo_add (Nat.le_of_lt h) p.eligible
  · exact .refl p

/-- Stage 3 raises each participant where it stands in the list. -/
theorem excessRounds_raises (fuel left : Nat) (ps : List Participant) :
    ∃ f : Participant → Participant, excessRounds fuel left ps = ps.map f ∧ ∀ p ∈ ps, p.RaisedTo (f p) := by
  induction fuel generalizing left ps with
  | zero => exact ⟨id, (List.map_id ps).symm, fun p _ => .refl p⟩
  | succ fuel ih =>
    rw [excessRounds_succ]
    split
    · exact ⟨id, (List.map_id ps).symm, fun p _ => .refl p⟩
    · split
      · obtain ⟨f, rest, raised⟩ := ih (left - cappedBytes left ps) (ps.map (·.afterCap left ps))
        exact ⟨f ∘ (·.afterCap left ps), by rw [rest, List.map_map], fun p hp =>
          (p.raisedTo_afterCap left ps).trans (raised _ (List.mem_map_of_mem hp))⟩
      · next uncapped =>
        exact ⟨_, rfl, fun p hp => Participant.raisedTo_afterShare fun capped =>
          uncapped (List.any_eq_true.mpr ⟨p, hp, capped⟩)⟩

/-! ### Stages 2 and 3 together -/

/-- A participant as stage 3 begins with it. -/
def Participant.entering (p : Participant) : Participant :=
  { p with eligible := decide (0 < p.residual) && decide (0 < p.weight) }

theorem grants_eq (a : Nat) (ps : List Participant) :
    grants a ps = excessRounds 9 (a - grantSum (committedParts a ps)) ((committedParts a ps).map (·.entering)) := rfl

theorem grantSum_entering (ps : List Participant) : grantSum (ps.map (·.entering)) = grantSum ps := by
  rw [grantSum, List.map_map]; rfl

theorem grantSum_grants_le (a : Nat) (ps : List Participant) : grantSum (grants a ps) ≤ a := by
  have parts := grantSum_committedParts_le a ps
  have excess := grantSum_excessRounds_le 9 (a - grantSum (committedParts a ps)) ((committedParts a ps).map (·.entering))
  rw [grantSum_entering] at excess
  rw [grants_eq]
  omega

/-- Stages 2 and 3 raise each participant from a committed part of at most its committed bytes and its demand. -/
theorem grants_raise (a : Nat) (ps : List Participant) :
    ∃ f : Participant → Participant, grants a ps = ps.map f ∧ ∀ p ∈ ps, ∃ g ≤ min p.committed p.demand, ∃ e,
      Participant.RaisedTo { p with grant := g, eligible := e } (f p) := by
  obtain ⟨f, rounds, raised⟩ :=
    excessRounds_raises 9 (a - grantSum (committedParts a ps)) ((committedParts a ps).map (·.entering))
  rw [grants_eq, rounds]
  rw [committedParts, List.map_map] at raised ⊢
  exact ⟨_, List.map_map, fun p hp => ⟨_, committedPart_le _ _ _, _, raised _ (List.mem_map_of_mem hp)⟩⟩

/-- Settles O35: stage 2 gives at most the available bytes and stage 3 at most what stage 2 leaves, and a grant is at most the
committed part or, where stage 3 raised it, the lesser of demand and peak. -/
theorem grantsDoNotExceedTheAvailableBytes : Obligations.GrantsDoNotExceedTheAvailableBytes := by
  unfold Obligations.GrantsDoNotExceedTheAvailableBytes
  intro a ps
  obtain ⟨f, given, raised⟩ := grants_raise a ps
  refine ⟨grantSum_grants_le a ps, ?_, fun q hq => ?_⟩
  · rw [given, List.map_map]
    refine List.map_congr_left fun p hp => ?_
    obtain ⟨_, _, _, r⟩ := raised p hp
    exact r.tenant
  · rw [given] at hq
    obtain ⟨p, hp, rfl⟩ := List.mem_map.mp hq
    obtain ⟨g, part, _, r⟩ := raised p hp
    have grant := r.grant
    rw [r.demand, r.peak, r.committed]
    dsimp only at grant ⊢
    omega

end Sys2Proof.Machine
end

section
/-! The slot plan (R97, R98, R105 to R108): the data slots of a direction are handed out without loss, so the run lists of a
carrier count its 128 slots. -/

namespace Sys2Proof.Machine

/-! ### Run lists (R108) -/

/-- No run is empty and neighbours differ in owner. -/
structure RunsProper (runs : List Run) : Prop where
  nonempty : ∀ r ∈ runs, 0 < r.count
  differ : ∀ (i : Nat) (x y : Run), runs[i]? = some x → runs[i + 1]? = some y → x.owner ≠ y.owner

theorem runSlots_consRun (o : SlotOwner) (runs : List Run) : runSlots (consRun o runs) = runSlots runs + 1 := by
  cases runs with
  | nil => rfl
  | cons r rest =>
    rw [consRun]
    split
    · simp only [runSlots, List.map_cons, List.sum_cons]; omega
    · simp only [runSlots, List.map_cons, List.sum_cons]; omega

theorem runsProper_nil : RunsProper [] := ⟨nofun, nofun⟩

theorem runsProper_singleton (o : SlotOwner) {n : Nat} (h : 0 < n) : RunsProper [⟨o, n⟩] :=
  ⟨fun _ hr => List.mem_singleton.mp hr ▸ h, fun _ _ _ _ hy => nomatch hy⟩

theorem runsProper_consRun {runs : List Run} (h : RunsProper runs) (o : SlotOwner) : RunsProper (consRun o runs) := by
  obtain ⟨nonempty, differ⟩ := h
  cases runs with
  | nil => exact runsProper_singleton o Nat.one_pos
  | cons r rest =>
    rw [consRun]
    split
    · next same =>
      refine ⟨List.forall_mem_cons.mpr ⟨Nat.succ_pos _, fun x hx => nonempty x (.tail _ hx)⟩, fun i x y hx hy => ?_⟩
      cases i with
      | zero => cases hx; exact same ▸ differ 0 r y rfl hy
      | succ i => exact differ (i + 1) x y hx hy
    · next other =>
      refine ⟨List.forall_mem_cons.mpr ⟨Nat.one_pos, nonempty⟩, fun i x y hx hy => ?_⟩
      cases i with
      | zero => cases hx; cases hy; exact Ne.symm other
      | succ i => exact differ i x y hx hy

/-- A run list counts a slot for each owner. -/
theorem runSlots_runsOf (owners : List SlotOwner) : runSlots (runsOf owners) = owners.length := by
  induction owners with
  | nil => rfl
  | cons o rest ih => rw [runsOf, List.foldr_cons, runSlots_consRun, ← runsOf, ih, List.length_cons]

theorem runsProper_runsOf (owners : List SlotOwner) : RunsProper (runsOf owners) := by
  induction owners with
  | nil => exact runsProper_nil
  | cons o rest ih => exact runsProper_consRun ih o

/-! ### Standings (R97, R98) -/

/-- The test slots that a standing keeps out of the data slots. -/
def Standing.testSlots : Standing → Nat
  | .opened k _ | .closed k => k
  | .absent | .idle | .test => 0

/-- A carrier keeps no more test slots than its test holds, whatever its standing. -/
theorem State.testSlots_standing_le (s : State) (w : Way) (c : Carrier) :
    (s.standing w c).testSlots ≤ (s.tru.holdings.get c).requirement.count := by
  unfold State.standing
  dsimp only
  repeat' split
  all_goals simp [Standing.testSlots]

/-- The run list of a carrier counts 128 slots and is proper, where the data slots have one owner each. -/
theorem Standing.runs_spec {st : Standing} {c : Carrier} {owners : List SlotOwner} {runs : List Run}
    (tests : st.testSlots ≤ 128) (data : owners.length = (st.dataSlots c).length) (h : st.runs owners = some runs) :
    runSlots runs = 128 ∧ RunsProper runs := by
  cases st with
  | absent => cases h
  | idle => cases h; exact ⟨rfl, runsProper_singleton _ (Nat.succ_pos 127)⟩
  | test => cases h; exact ⟨rfl, runsProper_singleton _ (Nat.succ_pos 127)⟩
  | opened k bytes =>
    cases h
    simp only [Standing.testSlots, Standing.dataSlots, List.length_replicate] at tests data
    refine ⟨?_, runsProper_runsOf _⟩
    rw [runSlots_runsOf, List.length_append, List.length_replicate, data]
    omega
  | closed k =>
    cases h
    simp only [Standing.testSlots] at tests
    refine ⟨?_, runsProper_runsOf _⟩
    rw [runSlots_runsOf, List.length_append, List.length_replicate, List.length_replicate]
    omega

/-! ### The slots of a plan are handed out without loss (R107) -/

/-- The carriers of slots in slot order. -/
def slotCarriers (slots : List (Carrier × Nat)) : List Carrier := slots.map (·.1)

/-- The slots taken for a target are the first ones, the slots left the others. -/
theorem takeSlots_split (target got : Nat) (slots : List (Carrier × Nat)) :
    (takeSlots target slots got).1 ++ slotCarriers (takeSlots target slots got).2.2 = slotCarriers slots := by
  induction slots generalizing got with
  | nil => rfl
  | cons x rest ih =>
    rw [takeSlots]
    split
    · rfl
    · exact congrArg (x.1 :: ·) (ih _)

/-- The slots of the participants in turn, then the slots left, are the slots there were. -/
theorem assignSlots_split (ps : List Participant) (slots : List (Carrier × Nat)) :
    (assignSlots ps slots).1.flatMap (·.slots) ++ slotCarriers (assignSlots ps slots).2 = slotCarriers slots := by
  induction ps generalizing slots with
  | nil => rfl
  | cons p rest ih =>
    rw [assignSlots]
    split
    · exact ih slots
    · split
      · exact ih slots
      · dsimp only
        rw [List.flatMap_cons, List.append_assoc, ih, takeSlots_split]

/-- A carrier's data owners are as many as its slots among those handed out and left. -/
theorem length_dataOwners (c : Carrier) (assigned : List Assigned) (left : List (Carrier × Nat)) :
    (dataOwners c assigned left).length = (assigned.flatMap (·.slots) ++ slotCarriers left).count c := by
  rw [List.count_append, List.count_flatMap]
  simp only [dataOwners, slotCarriers, List.length_append, List.length_flatMap, List.length_map,
    List.count_eq_length_filter, List.filter_map, Function.comp_def]

/-- All the data slots of a standing are slots of its carrier. -/
theorem count_slotCarriers_dataSlots (st : Standing) (c d : Carrier) :
    (slotCarriers (st.dataSlots c)).count d = if c = d then (st.dataSlots c).length else 0 := by
  cases st with
  | opened k bytes => simp [slotCarriers, Standing.dataSlots, List.count_replicate]
  | absent | idle | test | closed k => simp [slotCarriers, Standing.dataSlots]

/-- The data slots of a direction, those of carrier A first (R107). -/
def State.planSlots (s : State) (w : Way) : List (Carrier × Nat) :=
  (s.standing w .a).dataSlots .a ++ (s.standing w .b).dataSlots .b

theorem State.count_planSlots (s : State) (w : Way) (c : Carrier) :
    (slotCarriers (s.planSlots w)).count c = ((s.standing w c).dataSlots c).length := by
  have both : slotCarriers (s.planSlots w)
      = slotCarriers ((s.standing w .a).dataSlots .a) ++ slotCarriers ((s.standing w .b).dataSlots .b) := List.map_append
  rw [both, List.count_append, count_slotCarriers_dataSlots, count_slotCarriers_dataSlots]
  cases c with
  | a => simp
  | b => simp

/-- What stages 4 and 5 give in a direction, and the slots they leave. -/
def State.planAssigned (s : State) (w : Way) : List Assigned × List (Carrier × Nat) :=
  let a := slotBytes (s.planSlots w)
  let granted := grants a (s.participants w)
  if a = 0 then (granted.map fun p => ⟨p.tenant, p.grant, 0, p.debt, []⟩, s.planSlots w)
  else assignSlots (rotation (s.pointer w) granted) (s.planSlots w)

theorem State.planDirection_runs (s : State) (w : Way) (c : Carrier) :
    (s.planDirection w).runs.get c
      = (s.standing w c).runs (dataOwners c (s.planAssigned w).1 (s.planAssigned w).2) := by
  cases c with
  | a => rfl
  | b => rfl

/-- With or without available bytes (R105), the slots handed out and left are those of the direction. -/
theorem State.planAssigned_split (s : State) (w : Way) :
    (s.planAssigned w).1.flatMap (·.slots) ++ slotCarriers (s.planAssigned w).2 = slotCarriers (s.planSlots w) := by
  unfold State.planAssigned
  dsimp only
  split
  · have noSlots : ∀ ps : List Participant,
        (ps.map fun p => (⟨p.tenant, p.grant, 0, p.debt, []⟩ : Assigned)).flatMap (·.slots) = [] := by simp
    rw [noSlots, List.nil_append]
  · exact assignSlots_split _ _

/-- Each data slot of a carrier has one owner. -/
theorem State.length_dataOwners_plan (s : State) (w : Way) (c : Carrier) :
    (dataOwners c (s.planAssigned w).1 (s.planAssigned w).2).length = ((s.standing w c).dataSlots c).length := by
  rw [length_dataOwners, s.planAssigned_split, s.count_planSlots]

/-- Settles O36: the data slots have one owner each, the test slots of a carrier fill up its 128, and a run list joins the
neighbours of one owner. -/
theorem runListsCount128Slots : Obligations.RunListsCount128Slots := by
  unfold Obligations.RunListsCount128Slots
  intro s w c runs held h
  rw [s.planDirection_runs] at h
  obtain ⟨whole, nonempty, differ⟩ :=
    Standing.runs_spec (Nat.le_trans (s.testSlots_standing_le w c) (held c)) (s.length_dataOwners_plan w c) h
  exact ⟨whole, nonempty, differ⟩

end Sys2Proof.Machine
end

section
/-! Carrier B's wait and the reading of inbound superframes (R121, R123 to R127): what the Reassembler's operations do to
the streams, the pool and the channels, and what the reading of a superframe leaves as it is. -/

namespace Sys2Proof.Machine

/-! ### Entries of a table after an update of one of them -/

section Entries
variable (s : State)

theorem State.inStream_onInStream (t u : Tenant) (f : InStream → InStream) :
    (s.onInStream t f).inStream u = if u = t then f (s.inStream u) else s.inStream u :=
  tableModify_get s.ras.streams t u f

@[simp] theorem State.inStream_onInStream_same (t : Tenant) (f : InStream → InStream) :
    (s.onInStream t f).inStream t = f (s.inStream t) := by simp [State.inStream_onInStream]

@[simp] theorem State.channel_onChannel_same (ch : Channel) (f : ChannelEntry → ChannelEntry) :
    (s.onChannel ch f).channel ch = f (s.channel ch) :=
  (tableModify_get s.pqu.channels ch ch f).trans (if_pos rfl)

@[simp] theorem State.port_onPort_same (p : Port) (f : PortEntry → PortEntry) :
    (s.onPort p f).port p = f (s.port p) :=
  (tableModify_get s.pqu.ports p p f).trans (if_pos rfl)

@[simp] theorem State.inStream_onChannel (ch : Channel) (f : ChannelEntry → ChannelEntry) (t : Tenant) :
    (s.onChannel ch f).inStream t = s.inStream t := rfl
@[simp] theorem State.inStream_onRasCarrier (c : Carrier) (f : RasCarrier → RasCarrier) (t : Tenant) :
    (s.onRasCarrier c f).inStream t = s.inStream t := rfl
@[simp] theorem State.free_onChannel (ch : Channel) (f : ChannelEntry → ChannelEntry) :
    (s.onChannel ch f).pqu.free = s.pqu.free := rfl
@[simp] theorem State.free_onInStream (t : Tenant) (f : InStream → InStream) :
    (s.onInStream t f).pqu.free = s.pqu.free := rfl
@[simp] theorem State.port_onChannel (ch : Channel) (f : ChannelEntry → ChannelEntry) (p : Port) :
    (s.onChannel ch f).port p = s.port p := rfl
@[simp] theorem State.world_onChannel (ch : Channel) (f : ChannelEntry → ChannelEntry) :
    (s.onChannel ch f).world = s.world := rfl
@[simp] theorem State.tru_onRasCarrier (c : Carrier) (f : RasCarrier → RasCarrier) :
    (s.onRasCarrier c f).tru = s.tru := rfl
@[simp] theorem State.carriers_onRasCarrier (c : Carrier) (f : RasCarrier → RasCarrier) :
    (s.onRasCarrier c f).ras.carriers = s.ras.carriers.modify c f := rfl

end Entries

theorem PerCarrier.modify_modify {α : Type} (p : PerCarrier α) (c : Carrier) (f g : α → α) :
    (p.modify c f).modify c g = p.modify c fun x => g (f x) := by cases c <;> rfl

/-! ### Egress (R67) and delivery (R127) -/

section Delivery
variable (s : State)

theorem State.egress_up (p : Port) (bytes : List Byte) (up : s.world.links[p] = true) :
    (s.egress p bytes).1 = (s.onPort p fun e => { e with egress := e.egress + 1 }).emit (.portFrame p bytes) := by
  simp [State.egress, up]

theorem State.egress_down (p : Port) (bytes : List Byte) (down : s.world.links[p] = false) :
    (s.egress p bytes).1 = s.onPort p fun e => { e with egressDiscard := e.egressDiscard + 1 } := by
  simp [State.egress, down]

/-- A frame handed to a port touches no stream, no channel and no cell. -/
theorem State.egress_frame (p : Port) (bytes : List Byte) :
    (s.egress p bytes).1.ras = s.ras ∧ (s.egress p bytes).1.pqu.channels = s.pqu.channels
      ∧ (s.egress p bytes).1.pqu.free = s.pqu.free := by
  cases link : s.world.links[p] with
  | true => rw [s.egress_up p bytes link]; exact ⟨rfl, rfl, rfl⟩
  | false => rw [s.egress_down p bytes link]; exact ⟨rfl, rfl, rfl⟩

/-- The end of a complete frame on its stream: its cells return and the stream collects the next one. -/
def State.finishFrame (t : Tenant) (f : PartialFrame) (s : State) : State :=
  (s.returnCells (cellsOf f.bytes.length)).onInStream t fun _ => .collecting none

@[simp] theorem State.inStream_finishFrame (t : Tenant) (f : PartialFrame) :
    (s.finishFrame t f).inStream t = .collecting none := by simp [State.finishFrame]
@[simp] theorem State.free_finishFrame (t : Tenant) (f : PartialFrame) :
    (s.finishFrame t f).pqu.free = s.pqu.free + cellsOf f.bytes.length := rfl
@[simp] theorem State.channel_finishFrame (t : Tenant) (f : PartialFrame) (ch : Channel) :
    (s.finishFrame t f).channel ch = s.channel ch := rfl
@[simp] theorem State.port_finishFrame (t : Tenant) (f : PartialFrame) (p : Port) :
    (s.finishFrame t f).port p = s.port p := rfl
@[simp] theorem State.world_finishFrame (t : Tenant) (f : PartialFrame) :
    (s.finishFrame t f).world = s.world := rfl

/-- R127: no port to leave by, or a channel of another tenant. -/
theorem State.deliverFrame_dropped (t : Tenant) (f : PartialFrame)
    (h : (s.channel f.channel).egressPort = none ∨ (s.channel f.channel).owner ≠ some t) :
    s.deliverFrame t f = (s.finishFrame t f).onChannel f.channel fun e => { e with dropped := e.dropped + 1 } := by
  unfold State.deliverFrame
  dsimp only
  split
  · rfl
  · next p port =>
    have other : (s.channel f.channel).owner ≠ some t := h.resolve_left (by simp [port])
    rw [if_neg other]
    rfl

/-- R127: the channel is the tenant's own and has a port. -/
theorem State.deliverFrame_delivered (t : Tenant) (f : PartialFrame) (p : Port)
    (port : (s.channel f.channel).egressPort = some p) (own : (s.channel f.channel).owner = some t) :
    s.deliverFrame t f
      = (((s.finishFrame t f).onChannel f.channel fun e => { e with delivered := e.delivered + 1 }).egress p
          f.bytes).1 := by
  simp only [State.deliverFrame, port, if_pos own, State.finishFrame]

/-- A complete frame is dropped or delivered. -/
theorem State.deliverFrame_cases (t : Tenant) (f : PartialFrame) :
    ((s.channel f.channel).egressPort = none ∨ (s.channel f.channel).owner ≠ some t)
      ∨ ∃ p, (s.channel f.channel).egressPort = some p ∧ (s.channel f.channel).owner = some t := by
  by_cases own : (s.channel f.channel).owner = some t
  · cases port : (s.channel f.channel).egressPort with
    | none => exact .inl (.inl rfl)
    | some p => exact .inr ⟨p, rfl, own⟩
  · exact .inl (.inr own)

/-- Dropped or delivered, the frame's cells return and its stream collects the next one. -/
theorem State.deliverFrame_stream (t : Tenant) (f : PartialFrame) :
    (s.deliverFrame t f).inStream t = .collecting none
      ∧ (s.deliverFrame t f).pqu.free = s.pqu.free + cellsOf f.bytes.length := by
  rcases s.deliverFrame_cases t f with drop | ⟨p, port, own⟩
  · rw [s.deliverFrame_dropped t f drop]; simp
  · rw [s.deliverFrame_delivered t f p port own]
    generalize counted : (s.finishFrame t f).onChannel f.channel _ = u
    obtain ⟨ras, _, free⟩ := u.egress_frame p f.bytes
    rw [State.inStream, ras, free, ← counted]
    exact ⟨s.inStream_finishFrame t f, rfl⟩

/-- A delivered frame is counted at its channel, and leaves or is discarded by its port's link (R67). -/
theorem State.deliverFrame_port (t : Tenant) (f : PartialFrame) (p : Port)
    (port : (s.channel f.channel).egressPort = some p) (own : (s.channel f.channel).owner = some t) :
    (s.deliverFrame t f).channel f.channel
        = { s.channel f.channel with delivered := (s.channel f.channel).delivered + 1 }
      ∧ (s.world.links[p] = true → (s.deliverFrame t f).outputs = s.outputs ++ [.portFrame p f.bytes]
        ∧ ((s.deliverFrame t f).port p).egress = (s.port p).egress + 1)
      ∧ (s.world.links[p] = false → (s.deliverFrame t f).outputs = s.outputs
        ∧ ((s.deliverFrame t f).port p).egressDiscard = (s.port p).egressDiscard + 1) := by
  rw [s.deliverFrame_delivered t f p port own]
  refine ⟨?_, fun up => ?_, fun down => ?_⟩
  · rw [State.channel, (State.egress_frame _ p f.bytes).2.1]
    exact State.channel_onChannel_same _ _ _
  · rw [State.egress_up _ p f.bytes (by simpa using up)]
    exact ⟨rfl, by change ((State.onPort _ _ _).port p).egress = _; simp⟩
  · rw [State.egress_down _ p f.bytes (by simpa using down)]
    exact ⟨rfl, by simp⟩

end Delivery

/-! ### HUNTING (R121) -/

section Hunting
variable (s : State)

/-- The cells of its partial frame return when a stream goes to HUNTING. -/
theorem State.free_huntStream (t : Tenant) :
    (s.huntStream t).pqu.free = s.pqu.free + (s.inStream t).cells := by
  unfold State.huntStream
  split
  · next f frame => rw [frame]; rfl
  · next frame => rw [frame]; rfl
  · next frame => rw [frame]; rfl

theorem State.inStream_huntStream (t u : Tenant) :
    (s.huntStream t).inStream u = if u = t then .hunting else s.inStream u := by
  unfold State.huntStream
  split
  · exact State.inStream_onInStream _ t u _
  · exact State.inStream_onInStream _ t u _
  · exact State.inStream_onInStream _ t u _

@[simp] theorem State.tru_huntStream (t : Tenant) : (s.huntStream t).tru = s.tru := by
  rw [(s.huntStream_frame t).1]

/-- The streams of the tenants that `p` picks go to HUNTING. -/
def State.huntWhere (p : Tenant → Bool) (s : State) : State :=
  allTenants.foldl (fun s t => if p t then s.huntStream t else s) s

theorem State.huntAll_eq_huntWhere : s.huntAll = s.huntWhere fun _ => true := by
  simp [State.huntAll, State.huntWhere]

/-- What each tenant's turn leaves equal is equal after all of them. -/
theorem State.eq_huntWhere {α : Type} (view : State → α) (turn : ∀ s t, view (State.huntStream t s) = view s)
    (p : Tenant → Bool) : view (s.huntWhere p) = view s := by
  unfold State.huntWhere
  induction allTenants generalizing s with
  | nil => rfl
  | cons t rest ih =>
    rw [List.foldl_cons, ih]
    split
    · exact turn s t
    · rfl

@[simp] theorem State.tru_huntWhere (p : Tenant → Bool) : (s.huntWhere p).tru = s.tru :=
  s.eq_huntWhere (·.tru) (fun s t => s.tru_huntStream t) p

@[simp] theorem State.tru_huntAll : s.huntAll.tru = s.tru := by rw [s.huntAll_eq_huntWhere, State.tru_huntWhere]

/-- A stream is in HUNTING after the turns of a list when it was so before or its tenant's turn is among them. -/
theorem State.hunting_foldl (p : Tenant → Bool) (l : List Tenant) (u : Tenant)
    (h : s.inStream u = .hunting ∨ (u ∈ l ∧ p u = true)) :
    (l.foldl (fun s t => if p t then s.huntStream t else s) s).inStream u = .hunting := by
  induction l generalizing s with
  | nil => simpa using h
  | cons t rest ih =>
    rw [List.foldl_cons]
    refine ih _ ?_
    by_cases same : u = t
    · subst same
      by_cases picked : p u = true
      · exact .inl (by rw [if_pos picked, State.inStream_huntStream, if_pos rfl])
      · rw [if_neg picked]
        exact h.imp_right fun x => absurd x.2 picked
    · refine h.imp (fun x => ?_) (fun x => ⟨(List.mem_cons.1 x.1).resolve_left same, x.2⟩)
      split
      · rw [State.inStream_huntStream, if_neg same, x]
      · exact x

theorem mem_allTenants : ∀ t : Tenant, t ∈ allTenants := by decide

theorem State.hunting_huntWhere (p : Tenant → Bool) (u : Tenant) (picked : p u = true) :
    (s.huntWhere p).inStream u = .hunting :=
  s.hunting_foldl p allTenants u (.inr ⟨mem_allTenants u, picked⟩)

theorem State.hunting_huntAll (u : Tenant) : s.huntAll.inStream u = .hunting := by
  rw [s.huntAll_eq_huntWhere]
  exact s.hunting_huntWhere _ u rfl

end Hunting

/-! ### What the reading of a superframe leaves as it is -/

/-- The parts of the state that neither the slots of an inbound superframe nor its echoes move. -/
structure ReadingKeeps where
  cfr : PerCarrier Framer
  tbs : Tbs
  tsv : Tsv
  demand : Vector (BitVec 16) 8
  history : List InPlan
  phase : Phase
  carriers : PerCarrier RasCarrier
  waiting : Option (InSuperframe × Nat)
  judgedLost : List Word

def State.readingKeeps (s : State) : ReadingKeeps :=
  { cfr := s.cfr, tbs := s.tbs, tsv := s.tsv, demand := s.shc.demand, history := s.shc.history, phase := s.phc.phase,
    carriers := s.ras.carriers, waiting := s.ras.waiting, judgedLost := s.ras.judgedLost }

section Keeps
variable (s : State)

@[simp] theorem State.readingKeeps_onAdapt (c : Carrier) (f : Adaptation → Adaptation) :
    (s.onAdapt c f).readingKeeps = s.readingKeeps := rfl
@[simp] theorem State.readingKeeps_onTru (f : Tru → Tru) : (s.onTru f).readingKeeps = s.readingKeeps := rfl
@[simp] theorem State.readingKeeps_onContract (t : Tenant) (f : Contract → Contract) :
    (s.onContract t f).readingKeeps = s.readingKeeps := rfl
@[simp] theorem State.readingKeeps_onChannel (ch : Channel) (f : ChannelEntry → ChannelEntry) :
    (s.onChannel ch f).readingKeeps = s.readingKeeps := rfl
@[simp] theorem State.readingKeeps_onInStream (t : Tenant) (f : InStream → InStream) :
    (s.onInStream t f).readingKeeps = s.readingKeeps := rfl
@[simp] theorem State.readingKeeps_returnCells (n : Nat) : (s.returnCells n).readingKeeps = s.readingKeeps := rfl
@[simp] theorem State.readingKeeps_draw : s.draw.readingKeeps = s.readingKeeps := rfl
@[simp] theorem State.readingKeeps_answer (sheet : SheetIx) (code : AnswerCode) (words : List Word) :
    (s.answer sheet code words).readingKeeps = s.readingKeeps := rfl
@[simp] theorem State.readingKeeps_setRunData (d : RunData) : (s.setRunData d).readingKeeps = s.readingKeeps := rfl
@[simp] theorem State.readingKeeps_writeDelay (c : Carrier) (p : Profile) (d : Int) :
    (s.writeDelay c p d).readingKeeps = s.readingKeeps := rfl
@[simp] theorem State.readingKeeps_recomputeGate : s.recomputeGate.readingKeeps = s.readingKeeps := rfl
@[simp] theorem State.readingKeeps_onRasCarrier (c : Carrier) (f : RasCarrier → RasCarrier) :
    (s.onRasCarrier c f).readingKeeps
      = { s.readingKeeps with carriers := s.readingKeeps.carriers.modify c f } := rfl

@[simp] theorem State.readingKeeps_addEvent (k : EventKind) : (s.addEvent k).readingKeeps = s.readingKeeps := by
  rw [State.addEvent_eq]; rfl

@[simp] theorem State.readingKeeps_takeCells (n : Nat) : (s.takeCells n).1.readingKeeps = s.readingKeeps := by
  obtain ⟨_, _, frame⟩ := s.takeCells_spec n
  rw [frame]; rfl

@[simp] theorem State.readingKeeps_egress (p : Port) (bytes : List Byte) :
    (s.egress p bytes).1.readingKeeps = s.readingKeeps := by
  cases link : s.world.links[p] with
  | true => rw [s.egress_up p bytes link]; rfl
  | false => rw [s.egress_down p bytes link]; rfl

/-! ### A verdict and the end of a test (R162, R167) -/

@[simp] theorem State.readingKeeps_offerAdmission (t : Tenant) :
    (s.offerAdmission t).readingKeeps = s.readingKeeps := by
  unfold State.offerAdmission; split <;> simp [State.setTenant]

@[simp] theorem State.readingKeeps_admissionEvent : s.admissionEvent.readingKeeps = s.readingKeeps := by
  unfold State.admissionEvent
  induction allTenants generalizing s with
  | nil => rfl
  | cons t rest ih => rw [List.foldl_cons, ih, State.readingKeeps_offerAdmission]

@[simp] theorem State.readingKeeps_admissionChanged (f : FlagIx) :
    (s.admissionChanged f).readingKeeps = s.readingKeeps := by
  unfold State.admissionChanged
  dsimp only
  split <;> split <;> simp

@[simp] theorem State.readingKeeps_writeVerdict (f : FlagIx) (v : VerdictValue) (w : Writer) :
    (s.writeVerdict f v w).readingKeeps = s.readingKeeps := by
  unfold State.writeVerdict
  dsimp only
  split
  · simp
  · split <;> simp

@[simp] theorem State.readingKeeps_releaseTest : s.releaseTest.readingKeeps = s.readingKeeps := by
  unfold State.releaseTest; split <;> simp

@[simp] theorem State.readingKeeps_completeTest (pass : Bool) :
    (s.completeTest pass).readingKeeps = s.readingKeeps := by
  unfold State.completeTest State.endTest
  split
  · rfl
  · split
    · rfl
    · dsimp only
      split <;> simp

@[simp] theorem State.readingKeeps_readEchoes (c : Carrier) (t4 : Stamp) (residence : Word) (slots : List (List Byte)) :
    (s.readEchoes c t4 residence slots).readingKeeps = s.readingKeeps := by
  unfold State.readEchoes
  split
  · rfl
  · split
    · rfl
    · split
      · simp
      · split
        · rfl
        · dsimp only
          split <;> simp
      all_goals rfl

/-! ### Streams, labels and slots (R121, R125, R126) -/

@[simp] theorem State.readingKeeps_huntStream (t : Tenant) : (s.huntStream t).readingKeeps = s.readingKeeps := by
  unfold State.huntStream; split <;> simp

@[simp] theorem State.readingKeeps_huntWhere (p : Tenant → Bool) : (s.huntWhere p).readingKeeps = s.readingKeeps :=
  s.eq_huntWhere (·.readingKeeps) (fun s t => s.readingKeeps_huntStream t) p

@[simp] theorem State.readingKeeps_huntAll : s.huntAll.readingKeeps = s.readingKeeps := by
  rw [s.huntAll_eq_huntWhere, State.readingKeeps_huntWhere]

@[simp] theorem State.readingKeeps_deliverFrame (t : Tenant) (f : PartialFrame) :
    (s.deliverFrame t f).readingKeeps = s.readingKeeps := by
  rcases s.deliverFrame_cases t f with drop | ⟨p, port, own⟩
  · rw [s.deliverFrame_dropped t f drop]; rfl
  · rw [s.deliverFrame_delivered t f p port own, State.readingKeeps_egress]; rfl

@[simp] theorem State.readingKeeps_storeBytes (t : Tenant) (f : PartialFrame) (bytes : List Byte) :
    (s.storeBytes t f bytes).1.readingKeeps = s.readingKeeps := by
  unfold State.storeBytes
  dsimp only
  split
  · split <;> simp
  · simp

@[simp] theorem State.readingKeeps_readLabels (t : Tenant) (fuel : Nat) (bytes : List Byte) :
    (s.readLabels t fuel bytes).readingKeeps = s.readingKeeps := by
  induction fuel generalizing bytes s with
  | zero => rfl
  | succ n ih =>
    rw [State.readLabels]
    split
    · rfl
    · simp
    · dsimp only
      split <;> simp [ih]

@[simp] theorem State.readingKeeps_readHunting (t : Tenant) (bytes : List Byte) :
    (s.readHunting t bytes).readingKeeps = s.readingKeeps := by
  unfold State.readHunting
  split
  · rfl
  · split <;> simp

@[simp] theorem State.readingKeeps_readSlot (t : Tenant) (slot : InSlot) :
    (s.readSlot t slot).readingKeeps = s.readingKeeps := by
  unfold State.readSlot
  split
  · simp
  · dsimp only
    split
    · simp
    · split <;> simp
    · split
      · split <;> simp
      · simp

@[simp] theorem State.readingKeeps_readSlots (slots : List (SlotOwner × InSlot)) :
    (s.readSlots slots).readingKeeps = s.readingKeeps := by
  induction slots generalizing s with
  | nil => rfl
  | cons x rest ih =>
    obtain ⟨owner, slot⟩ := x
    cases owner with
    | tenant t => rw [State.readSlots, ih, State.readingKeeps_readSlot]
    | test => exact ih s
    | idle => exact ih s

theorem State.carriers_huntWhere (p : Tenant → Bool) : (s.huntWhere p).ras.carriers = s.ras.carriers :=
  congrArg ReadingKeeps.carriers (s.readingKeeps_huntWhere p)

theorem State.carriers_huntAll : s.huntAll.ras.carriers = s.ras.carriers := by
  rw [s.huntAll_eq_huntWhere, State.carriers_huntWhere]

end Keeps

/-! ### The reading of a superframe (R123) -/

/-- Every stream in HUNTING or none touched: what the reading keeps is as before. -/
theorem State.readingKeeps_of_gap (s : State) {s1 : State} (gap : s1 = s ∨ s1 = s.huntAll) :
    s1.readingKeeps = s.readingKeeps := by
  rcases gap with same | hunted
  · rw [same]
  · rw [hunted, s.readingKeeps_huntAll]

theorem State.tru_of_gap (s : State) {s1 : State} (gap : s1 = s ∨ s1 = s.huntAll) : s1.tru = s.tru := by
  rcases gap with same | hunted
  · rw [same]
  · rw [hunted, s.tru_huntAll]

/-- The owner of some run of a run list. -/
def ownsRun (runs : List Run) (t : Tenant) : Bool := runs.any fun r => r.owner == SlotOwner.tenant t

theorem ownsRun_of_mem {runs : List Run} {t : Tenant} {n : Nat} (h : ⟨.tenant t, n⟩ ∈ runs) : ownsRun runs t = true :=
  List.any_eq_true.2 ⟨_, h, by simp⟩

/-- What the reading of superframe `m` of carrier `c` can do from `s1` on, by the plan history `history`: its three
outcomes. -/
inductive SuperframeRead (c : Carrier) (m : InSuperframe) (history : List InPlan) (s1 : State) : State → Prop
  /-- no plan of its edition, or none for its carrier -/
  | planMiss (h : ∀ plan, history.find? (fun p => p.edition == m.edition) = some plan → plan.runs.get c = none) :
    SuperframeRead c m history s1 (s1.huntAll.onRasCarrier c fun r => { r with planMiss := r.planMiss + 1 })
  /-- a plan at another profile -/
  | profileMiss (plan : InPlan) (runs : List Run)
    (found : history.find? (fun p => p.edition == m.edition) = some plan) (run : plan.runs.get c = some runs)
    (other : (plan.profile.get c).val ≠ m.profile.toNat) :
    SuperframeRead c m history s1
      ((s1.huntWhere (ownsRun runs)).onRasCarrier c fun r => { r with profileMiss := r.profileMiss + 1 })
  /-- its plan -/
  | slots (plan : InPlan) (runs : List Run)
    (found : history.find? (fun p => p.edition == m.edition) = some plan) (run : plan.runs.get c = some runs)
    (same : (plan.profile.get c).val = m.profile.toNat) :
    SuperframeRead c m history s1
      ((s1.readSlots ((expandRuns runs).zip m.slots)).readEchoes c m.t4 m.residence
        (testPayloads ((expandRuns runs).zip m.slots)))

/-- A superframe behind a gap hunts every stream first; then it is read, and its number is kept. -/
theorem State.processSuperframe_cases (c : Carrier) (m : InSuperframe) (s : State) :
    ∃ s1 s2, (s1 = s ∨ s1 = s.huntAll) ∧ SuperframeRead c m s.shc.history s1 s2
      ∧ s.processSuperframe c m = s2.onRasCarrier c fun r => { r with last := some m.far } := by
  unfold State.processSuperframe
  extract_lets s1 s2
  have gap : s1 = s ∨ s1 = s.huntAll := by
    simp only [s1]
    split
    · exact .inl rfl
    · split
      · exact .inl rfl
      · exact .inr rfl
  have history : s1.shc.history = s.shc.history :=
    congrArg ReadingKeeps.history (s.readingKeeps_of_gap gap)
  refine ⟨s1, s2, gap, ?_, rfl⟩
  rw [← history]
  simp only [s2]
  split
  · next none => exact .planMiss (by simp [none])
  · next plan found =>
    split
    · next none => exact .planMiss fun p hp => by rw [← Option.some.inj (found.symm.trans hp)]; exact none
    · next runs run =>
      split
      · next other => exact .profileMiss plan runs found run other
      · next same => exact .slots plan runs found run (Decidable.not_not.1 same)

/-- The reading moves its own carrier's record alone of what `readingKeeps` holds, and keeps the superframe's number there. -/
theorem State.processSuperframe_keeps (c : Carrier) (m : InSuperframe) (s : State) :
    ∃ f : RasCarrier → RasCarrier, (∀ r, (f r).last = some m.far)
      ∧ (s.processSuperframe c m).readingKeeps
        = { s.readingKeeps with carriers := s.readingKeeps.carriers.modify c f } := by
  obtain ⟨s1, s2, gap, read, result⟩ := s.processSuperframe_cases c m
  rw [result, ← s.readingKeeps_of_gap gap]
  cases read with
  | planMiss =>
    refine ⟨fun r => { r with last := some m.far, planMiss := r.planMiss + 1 }, fun _ => rfl, ?_⟩
    simp [PerCarrier.modify_modify]
  | profileMiss =>
    refine ⟨fun r => { r with last := some m.far, profileMiss := r.profileMiss + 1 }, fun _ => rfl, ?_⟩
    simp [PerCarrier.modify_modify]
  | slots =>
    exact ⟨fun r => { r with last := some m.far }, fun _ => rfl, by simp⟩

/-- R123: no plan in the history is of the superframe's edition. -/
theorem State.processSuperframe_noPlan (c : Carrier) (m : InSuperframe) (s : State)
    (noPlan : ∀ x ∈ s.shc.history, x.edition ≠ m.edition) :
    (s.processSuperframe c m).ras.carriers.get c
        = { s.ras.carriers.get c with
            last := some m.far, planMiss := (s.ras.carriers.get c).planMiss + 1 }
      ∧ (∀ k : Tenant, (s.processSuperframe c m).inStream k = .hunting)
      ∧ (s.processSuperframe c m).tru = s.tru := by
  obtain ⟨s1, s2, gap, read, result⟩ := s.processSuperframe_cases c m
  have carriers : s1.ras.carriers = s.ras.carriers := congrArg ReadingKeeps.carriers (s.readingKeeps_of_gap gap)
  have notFound {plan : InPlan} (found : s.shc.history.find? (fun p => p.edition == m.edition) = some plan) : False :=
    noPlan plan (List.mem_of_find?_eq_some found) (by simpa using List.find?_some found)
  rw [result]
  cases read with
  | planMiss =>
    refine ⟨?_, fun k => by simpa using s1.hunting_huntAll k, by simpa using s.tru_of_gap gap⟩
    simp [s1.carriers_huntAll, carriers]
  | profileMiss plan runs found => exact (notFound found).elim
  | slots plan runs found => exact (notFound found).elim

/-- The plan found is the first of its edition. -/
theorem find?_first_edition {before after : List InPlan} {x : InPlan} {edition : Word}
    (earlier : ∀ y ∈ before, y.edition ≠ edition) (own : x.edition = edition) :
    (before ++ x :: after).find? (fun p => p.edition == edition) = some x := by
  have none : before.find? (fun p => p.edition == edition) = none :=
    List.find?_eq_none.2 fun y hy => by simpa using earlier y hy
  simp [List.find?_append, none, own]

/-- R123: the plan of the superframe's edition is for another profile. -/
theorem State.processSuperframe_otherProfile (c : Carrier) (m : InSuperframe) (s : State) {x : InPlan}
    (found : s.shc.history.find? (fun p => p.edition == m.edition) = some x) (run : x.runs.get c ≠ none)
    (other : (x.profile.get c).val ≠ m.profile.toNat) :
    (s.processSuperframe c m).ras.carriers.get c
        = { s.ras.carriers.get c with
            last := some m.far, profileMiss := (s.ras.carriers.get c).profileMiss + 1 }
      ∧ (s.processSuperframe c m).tru = s.tru
      ∧ ∀ (k : Tenant) (n : Nat), (∃ runs, x.runs.get c = some runs ∧ ⟨.tenant k, n⟩ ∈ runs) →
        (s.processSuperframe c m).inStream k = .hunting := by
  obtain ⟨s1, s2, gap, read, result⟩ := s.processSuperframe_cases c m
  have carriers : s1.ras.carriers = s.ras.carriers := congrArg ReadingKeeps.carriers (s.readingKeeps_of_gap gap)
  rw [result]
  cases read with
  | planMiss h => exact absurd (h x found) run
  | profileMiss plan runs found' run' =>
    cases found.symm.trans found'
    refine ⟨?_, by simpa using s.tru_of_gap gap, fun k n ⟨own, isOwn, mem⟩ => ?_⟩
    · simp [State.carriers_huntWhere, carriers]
    · cases run'.symm.trans isOwn
      simpa using s1.hunting_huntWhere _ k (ownsRun_of_mem mem)
  | slots plan runs found' run' same =>
    cases found.symm.trans found'
    exact absurd same other

/-! ### The reading of a slot (R125, R126, R194) -/

/-- R125: a slot whose check fails, or with another owner than its tenant. -/
theorem State.readSlot_bad (k : Tenant) (slot : InSlot) (s : State)
    (bad : slot.good = false ∨ slot.owner.toNat ≠ k.val) : s.readSlot k slot = s.huntStream k := by
  unfold State.readSlot
  refine if_pos ?_
  rcases bad with h | h <;> simp [h]

/-- R125: in HUNTING a good slot of the tenant is passed over when it is all carry-over. -/
theorem State.readSlot_hunting (k : Tenant) (slot : InSlot) (s : State) (good : slot.good = true)
    (own : slot.owner.toNat = k.val) (hunting : s.inStream k = .hunting) (carry : slot.carry = slot.payload.length) :
    s.readSlot k slot = s := by
  simp [State.readSlot, good, own, hunting, carry, State.readHunting]

/-- No label stands at the end of a slot. -/
theorem State.readLabels_nil (k : Tenant) (fuel : Nat) (s : State) : s.readLabels k fuel [] = s := by
  cases fuel <;> rfl

/-- R126: bytes that do not complete their frame are added to it, when the pool has the cells they need. -/
theorem State.storeBytes_partial (k : Tenant) (f : PartialFrame) (bytes : List Byte) (s : State)
    (short : f.bytes.length + bytes.length < f.length)
    (room : cellsOf (f.bytes.length + bytes.length) - cellsOf f.bytes.length ≤ s.pqu.free) :
    s.storeBytes k f bytes
      = ((s.takeCells (cellsOf (f.bytes.length + bytes.length) - cellsOf f.bytes.length)).1.onInStream k
          fun _ => .collecting (some { f with bytes := f.bytes ++ bytes }), true) := by
  obtain ⟨granted, _, _⟩ := s.takeCells_spec (cellsOf (f.bytes.length + bytes.length) - cellsOf f.bytes.length)
  simp [State.storeBytes, granted, room, Nat.ne_of_lt short]

/-- R126: a slot that a frame in progress fills adds its payload to the frame. -/
theorem State.readSlot_filled (k : Tenant) (slot : InSlot) (s : State) (good : slot.good = true)
    (own : slot.owner.toNat = k.val) {f : PartialFrame} (collecting : s.inStream k = .collecting (some f))
    (short : f.bytes.length + slot.payload.length < f.length) (carry : slot.carry = slot.payload.length) :
    s.readSlot k slot = (s.storeBytes k f slot.payload).1 := by
  have whole : slot.payload.length = min (f.length - f.bytes.length) slot.payload.length := by omega
  simp only [State.readSlot, good, own, collecting, carry]
  simp [← whole, State.readLabels_nil]

theorem cellsOf_mono {m n : Nat} (h : m ≤ n) : cellsOf m ≤ cellsOf n := Nat.div_le_div_right (Nat.add_le_add_right h 63)

/-- R126: the frame grows by the payload, and the pool gives the cells for it. -/
theorem State.readSlot_grows (k : Tenant) (slot : InSlot) (s : State) (good : slot.good = true)
    (own : slot.owner.toNat = k.val) {f : PartialFrame} (collecting : s.inStream k = .collecting (some f))
    (short : f.bytes.length + slot.payload.length < f.length) (carry : slot.carry = slot.payload.length)
    (room : cellsOf (f.bytes.length + slot.payload.length) ≤ s.pqu.free + cellsOf f.bytes.length) :
    (s.readSlot k slot).inStream k = .collecting (some { f with bytes := f.bytes ++ slot.payload })
      ∧ (s.readSlot k slot).pqu.free + cellsOf (f.bytes.length + slot.payload.length)
        = s.pqu.free + cellsOf f.bytes.length := by
  have grows := cellsOf_mono (Nat.le_add_right f.bytes.length slot.payload.length)
  rw [s.readSlot_filled k slot good own collecting short carry,
    s.storeBytes_partial k f slot.payload short (Nat.sub_le_iff_le_add.2 room)]
  refine ⟨by simp, ?_⟩
  obtain ⟨_, taken, _⟩ :=
    s.takeCells_spec (cellsOf (f.bytes.length + slot.payload.length) - cellsOf f.bytes.length)
  simp only [State.free_onInStream, taken]
  omega

/-! ### The end of carrier B's wait (R124) -/

theorem exec_carrierBWaitExpiry (env : List Outside) (s : State) :
    exec (.carrierBWaitExpiry env) s = .next (s.enter env (.carrierBWaitExpiry env)).endWait := rfl

theorem State.endWait_of_none (s : State) (h : s.ras.waiting = none) : s.endWait = s := by
  simp [State.endWait, State.waitExpired, h]

theorem State.endWait_of_early (s : State) {m : InSuperframe} {since : Nat} (h : s.ras.waiting = some (m, since))
    (early : s.tbs.advance < since + nsUnits 1000000) : s.endWait = s := by
  simp [State.endWait, State.waitExpired, h, Nat.not_le.2 early]

theorem State.endWait_of_expired (s : State) {m : InSuperframe} {since : Nat} (h : s.ras.waiting = some (m, since))
    (expired : since + nsUnits 1000000 ≤ s.tbs.advance) :
    s.endWait = (s.onRas fun r => { r with waiting := none }).processJudged m := by
  simp [State.endWait, State.waitExpired, State.processWaiting, h, expired]

/-- The waiting superframe is read as carrier B's, and its number joins those judged lost (log entry 25). -/
theorem State.endWait_keeps (s : State) {m : InSuperframe} {since : Nat} (h : s.ras.waiting = some (m, since))
    (expired : since + nsUnits 1000000 ≤ s.tbs.advance) :
    ∃ f : RasCarrier → RasCarrier, (∀ r, (f r).last = some m.far)
      ∧ s.endWait.readingKeeps
        = { s.readingKeeps with
            carriers := s.ras.carriers.modify .b f, waiting := none, judgedLost := s.ras.judgedLost ++ [m.far] } := by
  rw [s.endWait_of_expired h expired, State.processJudged]
  obtain ⟨f, last, keeps⟩ := State.processSuperframe_keeps .b m
    ((s.onRas fun r => { r with waiting := none }).onRas fun r =>
      { r with judgedLost := r.judgedLost ++ [m.far] }).huntAll
  refine ⟨f, last, ?_⟩
  rw [keeps, State.readingKeeps_huntAll]
  rfl

/-- Settles O40: the wait ends by the cases of the expiry, and a superframe, a slot and a complete frame are each followed
through the outcomes of their reading. -/
theorem carrierBWaitEnds : Obligations.CarrierBWaitEnds := by
  unfold Obligations.CarrierBWaitEnds
  refine ⟨fun env s => ?_, fun c m s => ?_, fun k slot s => ?_, fun k f s => ?_⟩
  · intro e
    have answer : exec (.carrierBWaitExpiry env) s = .next e.endWait := exec_carrierBWaitExpiry env s
    rw [answer]
    clear_value e
    refine ⟨fun none => by rw [e.endWait_of_none none],
      fun m since waits => ⟨fun early => by rw [e.endWait_of_early waits early], fun expired => ⟨_, rfl, ?_⟩⟩⟩
    obtain ⟨f, last, keeps⟩ := e.endWait_keeps waits expired
    obtain ⟨cfr, tbs, tsv, demand, _, phase, carriers, waiting, judged⟩ := ReadingKeeps.mk.inj keeps
    exact ⟨waiting, by simp [judged], by simp [carriers, last], by simp [carriers], cfr, tbs, tsv, demand, phase⟩
  · refine ⟨s.processSuperframe_noPlan c m, fun x before after history earlier own run other => ?_⟩
    exact s.processSuperframe_otherProfile c m (by rw [history]; exact find?_first_edition earlier own) run other
  · refine ⟨fun bad => ?_, fun good own => ⟨s.readSlot_hunting k slot good own, fun f collecting short carry room => ?_⟩⟩
    · rw [s.readSlot_bad k slot bad]
      exact ⟨(s.huntStream_frame k).2, s.free_huntStream k⟩
    · exact s.readSlot_grows k slot good own collecting short carry room
  · obtain ⟨stream, free⟩ := s.deliverFrame_stream k f
    refine ⟨stream, free, fun drop => ?_, fun p port own => s.deliverFrame_port k f p port own⟩
    rw [s.deliverFrame_dropped k f drop]
    exact ⟨by simp, rfl⟩

end Sys2Proof.Machine
end

section
/-! What leaves the Time Base as it is: every operation outside chapters 8 and 9 but the superframe's own points and the
resets. A statement about the counter, the pulse outputs or the superframe number looks past these operations by the `simp`
set below. -/

namespace Sys2Proof.Machine

/-- What each turn leaves equal is equal after all of them. -/
theorem State.eq_foldl {α β : Type} (view : State → β) {f : State → α → State}
    (turn : ∀ s x, view (f s x) = view s) (l : List α) (s : State) : view (l.foldl f s) = view s := by
  induction l generalizing s with
  | nil => rfl
  | cons x rest ih => rw [List.foldl_cons, ih, turn]

/-- What the reading of a superframe keeps holds the Time Base. -/
theorem State.tbs_of_readingKeeps {s t : State} (h : t.readingKeeps = s.readingKeeps) : t.tbs = s.tbs :=
  congrArg ReadingKeeps.tbs h

section Frames
variable (s : State)

/-! ### Entries of tables, answers and free values -/

@[simp] theorem State.tbs_onChannel (ch : Channel) (f : ChannelEntry → ChannelEntry) :
    (s.onChannel ch f).tbs = s.tbs := rfl
@[simp] theorem State.tbs_onPort (p : Port) (f : PortEntry → PortEntry) : (s.onPort p f).tbs = s.tbs := rfl
@[simp] theorem State.tbs_onContract (t : Tenant) (f : Contract → Contract) : (s.onContract t f).tbs = s.tbs := rfl
@[simp] theorem State.tbs_onInStream (t : Tenant) (f : InStream → InStream) : (s.onInStream t f).tbs = s.tbs := rfl
@[simp] theorem State.tbs_onRasCarrier (c : Carrier) (f : RasCarrier → RasCarrier) :
    (s.onRasCarrier c f).tbs = s.tbs := rfl
@[simp] theorem State.tbs_answer (sheet : SheetIx) (code : AnswerCode) (words : List Word) :
    (s.answer sheet code words).tbs = s.tbs := rfl
@[simp] theorem State.tbs_setTenant (t : Tenant) (st : TenantState) : (s.setTenant t st).tbs = s.tbs := by
  simp [State.setTenant]

/-! ### Link adaptation (chapter 3) -/

@[simp] theorem State.tbs_commitCarrier (c : Carrier) : (s.commitCarrier c).tbs = s.tbs := by
  unfold State.commitCarrier
  dsimp only
  split
  · rfl
  · split <;> split <;> simp

@[simp] theorem State.tbs_setEntry (c : Carrier) (p : Profile) (new : ProfileEntry) :
    (s.setEntry c p new).tbs = s.tbs := by
  unfold State.setEntry
  dsimp only
  split <;> rfl

@[simp] theorem State.tbs_profileSet (sheet : SheetIx) (params : List Word) : (s.profileSet sheet params).tbs = s.tbs := by
  unfold State.profileSet
  split
  · dsimp only
    split
    · rfl
    · split <;> simp
  · rfl

/-! ### Admission and verdicts (sections 5.2, 10.1) -/

@[simp] theorem State.tbs_offerAdmission (t : Tenant) : (s.offerAdmission t).tbs = s.tbs :=
  State.tbs_of_readingKeeps (s.readingKeeps_offerAdmission t)

@[simp] theorem State.tbs_admissionEvent : s.admissionEvent.tbs = s.tbs :=
  State.tbs_of_readingKeeps s.readingKeeps_admissionEvent

@[simp] theorem State.tbs_writeVerdict (f : FlagIx) (v : VerdictValue) (w : Writer) :
    (s.writeVerdict f v w).tbs = s.tbs := State.tbs_of_readingKeeps (s.readingKeeps_writeVerdict f v w)

@[simp] theorem State.tbs_compareClass (t : Tenant) : (s.compareClass t).tbs = s.tbs := by
  unfold State.compareClass
  split
  · split <;> simp
  · split <;> simp
  all_goals rfl

@[simp] theorem State.tbs_classChanged : s.classChanged.tbs = s.tbs := by
  rw [State.classChanged, State.tbs_admissionEvent]
  exact State.eq_foldl State.tbs (fun s t => s.tbs_compareClass t) allTenants s

@[simp] theorem State.tbs_verdictSet (sheet : SheetIx) (params : List Word) : (s.verdictSet sheet params).tbs = s.tbs := by
  unfold State.verdictSet; split <;> simp

/-! ### Ports and queues (chapter 4) -/

@[simp] theorem State.tbs_removeHead (ch : Channel) (count : ChannelEntry → ChannelEntry) :
    (s.removeHead ch count).tbs = s.tbs := by
  unfold State.removeHead; split <;> rfl

@[simp] theorem State.tbs_notePurge (t : Tenant) : (s.notePurge t).tbs = s.tbs := rfl

@[simp] theorem State.tbs_purge (t : Tenant) : (s.purge t).tbs = s.tbs :=
  State.eq_foldl State.tbs (f := fun s ch => s.purgeChannel ch) (fun _ _ => rfl) (s.channelsOf t) s

@[simp] theorem State.tbs_egress (p : Port) (bytes : List Byte) : (s.egress p bytes).1.tbs = s.tbs :=
  State.tbs_of_readingKeeps (s.readingKeeps_egress p bytes)

@[simp] theorem State.tbs_enqueue (p : Port) (bytes : List Byte) (ch : Channel) : (s.enqueue p bytes ch).tbs = s.tbs := by
  unfold State.enqueue
  dsimp only
  split <;> simp

@[simp] theorem State.tbs_arrive (p : Port) (bytes : List Byte) (good : Bool) : (s.arrive p bytes good).tbs = s.tbs := by
  unfold State.arrive
  dsimp only
  split <;> simp

@[simp] theorem State.tbs_portSet (sheet : SheetIx) (params : List Word) : (s.portSet sheet params).tbs = s.tbs := by
  unfold State.portSet
  split
  · rfl
  · split <;> rfl

@[simp] theorem State.tbs_channelSet (sheet : SheetIx) (params : List Word) : (s.channelSet sheet params).tbs = s.tbs := by
  unfold State.channelSet
  split
  · rfl
  · dsimp only
    split
    · split <;> rfl
    · rfl

@[simp] theorem State.tbs_portNotice (p : Port) : (s.portNotice p).tbs = s.tbs := by
  unfold State.portNotice
  split
  · rfl
  · dsimp only
    split <;> simp

@[simp] theorem State.tbs_notices : s.notices.tbs = s.tbs :=
  State.eq_foldl State.tbs (fun s p => s.tbs_portNotice p) allPorts s

/-! ### Tests (chapter 10) -/

@[simp] theorem State.tbs_setRunData (d : RunData) : (s.setRunData d).tbs = s.tbs := rfl

@[simp] theorem State.tbs_releaseTest : s.releaseTest.tbs = s.tbs :=
  State.tbs_of_readingKeeps s.readingKeeps_releaseTest

@[simp] theorem State.tbs_completeTest (pass : Bool) : (s.completeTest pass).tbs = s.tbs :=
  State.tbs_of_readingKeeps (s.readingKeeps_completeTest pass)

@[simp] theorem State.tbs_endTest (verdict : Option VerdictValue) (code : AnswerCode) :
    (s.endTest verdict code).tbs = s.tbs := by
  unfold State.endTest
  split
  · rfl
  · dsimp only
    split <;> simp

@[simp] theorem State.tbs_dropTest (sheet : SheetIx) : (s.dropTest sheet).tbs = s.tbs := by
  unfold State.dropTest
  dsimp only
  split
  · rfl
  · split <;> simp

@[simp] theorem State.tbs_testLinkLoss (c : Carrier) : (s.testLinkLoss c).tbs = s.tbs := by
  unfold State.testLinkLoss
  split
  · rfl
  · split <;> simp

@[simp] theorem State.tbs_sweepCarrierOff (c : Carrier) : (s.sweepCarrierOff c).tbs = s.tbs := by
  unfold State.sweepCarrierOff
  split
  · rfl
  · split <;> simp

@[simp] theorem State.tbs_berInProfileChange : s.berInProfileChange.tbs = s.tbs := by
  unfold State.berInProfileChange
  split
  · rfl
  · split
    · split <;> simp
    · rfl

@[simp] theorem State.tbs_testOrder (sheet : SheetIx) (params : List Word) : (s.testOrder sheet params).tbs = s.tbs := by
  unfold State.testOrder
  split
  · rfl
  · split <;> rfl

@[simp] theorem State.tbs_testStop (sheet : SheetIx) (params : List Word) : (s.testStop sheet params).tbs = s.tbs := by
  unfold State.testStop
  split
  · rfl
  · split
    · rfl
    · split
      · rfl
      · split
        · split <;> simp
        · rfl

@[simp] theorem State.tbs_startTest (r : TestRecord) : (s.startTest r).tbs = s.tbs := by
  unfold State.startTest
  cases r.params.pin <;> dsimp only <;> split <;> rfl

@[simp] theorem State.tbs_tryHeads (n : Nat) : (s.tryHeads n).tbs = s.tbs := by
  induction n generalizing s with
  | zero => rfl
  | succ n ih =>
    rw [State.tryHeads]
    split
    · dsimp only
      split
      · simp [ih]
      · split <;> simp [ih]
    · rfl

@[simp] theorem State.tbs_berEnd : s.berEnd.tbs = s.tbs := by
  unfold State.berEnd
  split
  · split
    · rfl
    · split <;> simp
  · rfl

@[simp] theorem State.tbs_noLoopEnd : s.noLoopEnd.tbs = s.tbs := by
  unfold State.noLoopEnd; split <;> simp

@[simp] theorem State.tbs_delayTimeout : s.delayTimeout.tbs = s.tbs := by
  unfold State.delayTimeout; split <;> simp

@[simp] theorem State.tbs_sweepSample (good : Bool) : (s.sweepSample good).tbs = s.tbs := by
  unfold State.sweepSample
  split
  · split
    · rfl
    · split
      · dsimp only
        split <;> simp [apply_ite State.tbs]
      · rfl
  · rfl

@[simp] theorem State.tbs_loopAcknowledged (c : Carrier) : (s.loopAcknowledged c).tbs = s.tbs := rfl

@[simp] theorem State.tbs_testContents (c : Carrier) (payload : Nat) (positions : List Nat) :
    (s.testContents c payload positions).2.tbs = s.tbs := by
  unfold State.testContents
  split
  · rfl
  · dsimp only
    split
    · rfl
    · split
      · split <;> rfl
      all_goals rfl

@[simp] theorem State.tbs_testSeesStep : s.testSeesStep.tbs = s.tbs := by
  unfold State.testSeesStep
  split
  · rfl
  · split <;> rfl

@[simp] theorem State.tbs_testSeesSecond (gnss : Option Int) (link : PerCarrier (Option Int)) :
    (s.testSeesSecond gnss link).tbs = s.tbs := by
  unfold State.testSeesSecond
  split
  · rfl
  · split
    · dsimp only
      split <;> rfl
    · rfl

@[simp] theorem State.tbs_checkCompletes : s.checkCompletes.tbs = s.tbs := by
  unfold State.checkCompletes
  split
  · split <;> simp
  · rfl

/-! ### Reassembly (sections 7.3 to 7.5) -/

@[simp] theorem State.tbs_huntStream (t : Tenant) : (s.huntStream t).tbs = s.tbs :=
  State.tbs_of_readingKeeps (s.readingKeeps_huntStream t)

@[simp] theorem State.tbs_huntAll : s.huntAll.tbs = s.tbs := State.tbs_of_readingKeeps s.readingKeeps_huntAll

@[simp] theorem State.tbs_processSuperframe (c : Carrier) (m : InSuperframe) : (s.processSuperframe c m).tbs = s.tbs := by
  obtain ⟨_, _, keeps⟩ := s.processSuperframe_keeps c m
  exact congrArg ReadingKeeps.tbs keeps

@[simp] theorem State.tbs_processJudged (m : InSuperframe) : (s.processJudged m).tbs = s.tbs := by
  simp [State.processJudged]

@[simp] theorem State.tbs_processWaiting : s.processWaiting.tbs = s.tbs := by
  unfold State.processWaiting; split <;> simp

@[simp] theorem State.tbs_handOver (c : Carrier) (m : InSuperframe) : (s.handOver c m).tbs = s.tbs := by
  cases c with
  | a =>
    unfold State.handOver State.handOverA
    dsimp only
    split
    · rfl
    · split
      · simp
      · split <;> simp
  | b =>
    unfold State.handOver State.handOverB
    dsimp only
    split
    · simp
    · split
      · simp
      · split <;> simp

@[simp] theorem State.tbs_lostNotice (c : Carrier) (far : Word) : (s.lostNotice c far).tbs = s.tbs := by
  unfold State.lostNotice
  split
  · simp
  · split <;> simp

@[simp] theorem State.tbs_endWait : s.endWait.tbs = s.tbs := by
  unfold State.endWait; split <;> simp

/-! ### Carriers (sections 2.5 to 2.7) -/

@[simp] theorem State.tbs_setTx (c : Carrier) (st : TxState) : (s.setTx c st).tbs = s.tbs := by
  unfold State.setTx; split <;> simp

@[simp] theorem State.tbs_setRx (c : Carrier) (st : RxState) : (s.setRx c st).tbs = s.tbs := by
  unfold State.setRx; split <;> simp

@[simp] theorem State.tbs_lossOfSync (c : Carrier) : (s.lossOfSync c).tbs = s.tbs := by
  unfold State.lossOfSync
  dsimp only
  split <;> simp

@[simp] theorem State.tbs_toHunt (c : Carrier) : (s.toHunt c).tbs = s.tbs := by
  unfold State.toHunt
  dsimp only
  split <;> simp

@[simp] theorem State.tbs_enterOff (c : Carrier) : (s.enterOff c).tbs = s.tbs := by
  cases c <;> simp [State.enterOff]

@[simp] theorem State.tbs_stopCarrier (c : Carrier) : (s.stopCarrier c).tbs = s.tbs := by
  unfold State.stopCarrier; split <;> simp

@[simp] theorem State.tbs_carrierStart (sheet : SheetIx) (params : List Word) :
    (s.carrierStart sheet params).tbs = s.tbs := by
  unfold State.carrierStart
  split
  · rfl
  · split <;> simp

@[simp] theorem State.tbs_carrierStop (sheet : SheetIx) (params : List Word) : (s.carrierStop sheet params).tbs = s.tbs := by
  unfold State.carrierStop; split <;> simp

@[simp] theorem State.tbs_drainEnd (c : Carrier) : (s.drainEnd c).tbs = s.tbs := by
  unfold State.drainEnd; split <;> simp

@[simp] theorem State.tbs_headerLost (c : Carrier) : (s.headerLost c).tbs = s.tbs := by
  unfold State.headerLost; split <;> simp

@[simp] theorem State.tbs_missCounted (c : Carrier) : (s.missCounted c).tbs = s.tbs := by
  unfold State.missCounted
  dsimp only
  split
  · simp
  · split <;> simp

@[simp] theorem State.tbs_receiveBad (c : Carrier) : (s.receiveBad c).tbs = s.tbs := by
  unfold State.receiveBad; split <;> simp

@[simp] theorem State.tbs_startedToRunning (c : Carrier) : (s.startedToRunning c).tbs = s.tbs := by
  unfold State.startedToRunning; split <;> simp

@[simp] theorem State.tbs_receiveGood (c : Carrier) (n : Word) : (s.receiveGood c n).1.tbs = s.tbs := by
  unfold State.receiveGood
  dsimp only
  split
  · simp
  · split
    · split <;> simp
    · rfl
  all_goals split <;> simp

@[simp] theorem State.tbs_missed (c : Carrier) : (s.missed c).tbs = s.tbs := by
  unfold State.missed
  split
  · dsimp only
    split <;> simp
  · rfl

/-! ### Deliveries (R33, R41) -/

@[simp] theorem State.tbs_exchange (x : Exchange) : (s.exchange x).tbs = s.tbs := by
  unfold State.exchange; split <;> rfl

@[simp] theorem State.tbs_recordFarSync (c : Carrier) (far : Byte) : (s.recordFarSync c far).tbs = s.tbs := by
  unfold State.recordFarSync; split <;> rfl

@[simp] theorem State.tbs_takeAnswerIfAny (c : Carrier) (h : InHeader) (t4 : Stamp) :
    (s.takeAnswerIfAny c h t4).tbs = s.tbs := by
  unfold State.takeAnswerIfAny State.takeAnswer
  split
  · rfl
  · split <;> simp

@[simp] theorem State.tbs_acceptHeader (c : Carrier) (h : InHeader) (slots : List InSlot) (t4 : Stamp) :
    (s.acceptHeader c h slots t4).tbs = s.tbs := by
  unfold State.acceptHeader
  dsimp only
  split <;> simp [State.takeDemand, State.outboundReport]

@[simp] theorem State.tbs_deliver (c : Carrier) (d : Delivery) : (s.deliver c d).tbs = s.tbs := by
  unfold State.deliver
  split
  · rfl
  · dsimp only
    split
    · split <;> simp [State.restartMissTimer, State.inboundReport]
    · simp [State.restartMissTimer, State.inboundReport]

/-! ### Reports and register accesses (R16, R19, section 1.1) -/

@[simp] theorem State.tbs_standingOrder (sheet : SheetIx) (params : List Word) :
    (s.standingOrder sheet params).tbs = s.tbs := by
  unfold State.standingOrder
  split
  · rfl
  · dsimp only
    split
    · rfl
    · split
      · rfl
      · split <;> rfl

@[simp] theorem State.tbs_readOrder (sheet : SheetIx) (params : List Word) : (s.readOrder sheet params).tbs = s.tbs := by
  unfold State.readOrder
  split
  · split <;> rfl
  · rfl

@[simp] theorem State.tbs_hostRead (be : BitVec 4) (offset : Nat) : (s.hostRead be offset).tbs = s.tbs := by
  rw [State.hostRead_eq]

@[simp] theorem State.tbs_setMask (v : Word) : (s.setMask v).tbs = s.tbs := by
  unfold State.setMask State.interruptAfter; split <;> rfl

@[simp] theorem State.tbs_writeBaseHi (v : Word) : (s.writeBaseHi v).tbs = s.tbs := by
  unfold State.writeBaseHi; split <;> rfl

@[simp] theorem State.tbs_writeBaseLo (v : Word) : (s.writeBaseLo v).tbs = s.tbs := by
  unfold State.writeBaseLo; split <;> rfl

/-! ### Contracts and phases (chapters 5 and 11) -/

@[simp] theorem State.tbs_tenantSet (sheet : SheetIx) (params : List Word) : (s.tenantSet sheet params).tbs = s.tbs := by
  unfold State.tenantSet
  split
  · rfl
  · dsimp only
    split
    · split
      · rfl
      · split
        · rfl
        · simp only [State.tbs_answer, State.tbs_compareClass, State.tbs_offerAdmission]
          split <;> simp
    · rfl

@[simp] theorem State.tbs_vacate (t : Tenant) : (s.vacate t).tbs = s.tbs := by
  simp [State.vacate, State.clearNaming]

@[simp] theorem State.tbs_retirementTest (t : Tenant) : (s.retirementTest t).tbs = s.tbs := by
  unfold State.retirementTest; split <;> simp

@[simp] theorem State.tbs_retire (t : Tenant) : (s.retire t).tbs = s.tbs := by
  unfold State.retire; split <;> simp [State.clearNaming]

@[simp] theorem State.tbs_retirePurge (t : Tenant) : (s.retirePurge t).tbs = s.tbs := by
  unfold State.retirePurge; split <;> simp [State.clearNaming]

@[simp] theorem State.tbs_retireAll : s.retireAll.tbs = s.tbs :=
  State.eq_foldl State.tbs (fun s t => by split <;> simp) allTenants s

@[simp] theorem State.tbs_purgeRetiring : s.purgeRetiring.tbs = s.tbs :=
  State.eq_foldl State.tbs (fun s t => by split <;> simp) allTenants s

@[simp] theorem State.tbs_enterSetup : s.enterSetup.tbs = s.tbs := by
  unfold State.enterSetup
  dsimp only
  split <;> simp [State.setPhase]

@[simp] theorem State.tbs_autoReturn : s.autoReturn.tbs = s.tbs := by
  unfold State.autoReturn; split <;> simp

@[simp] theorem State.tbs_enterPhase (p : Phase) : (s.enterPhase p).tbs = s.tbs := by
  cases p <;> simp [State.enterPhase, State.setPhase]

@[simp] theorem State.tbs_tenantRetire (sheet : SheetIx) (params : List Word) :
    (s.tenantRetire sheet params).tbs = s.tbs := by
  unfold State.tenantRetire
  split
  · rw [State.tbs_answer, State.tbs_autoReturn]
    split <;> simp
  · rfl

@[simp] theorem State.tbs_phaseOrder (sheet : SheetIx) (params : List Word) : (s.phaseOrder sheet params).tbs = s.tbs := by
  unfold State.phaseOrder
  split
  · dsimp only
    split
    · rw [State.tbs_answer]
      split <;> simp [State.recomputeGate]
    · rfl
  · rfl

/-! ### Aging, slots and superframes (sections 2.2, 2.3, 7.1) -/

@[simp] theorem State.tbs_afterRemoval (owner : Option Tenant) : (s.afterRemoval owner).tbs = s.tbs := by
  cases owner <;> simp [State.afterRemoval]

@[simp] theorem State.tbs_ageChannel (n : Word) (ch : Channel) (fuel : Nat) : (s.ageChannel n ch fuel).tbs = s.tbs := by
  induction fuel generalizing s with
  | zero => rfl
  | succ k ih =>
    rw [State.ageChannel]
    split
    · simp [ih]
    · rfl

@[simp] theorem State.tbs_age : s.age.tbs = s.tbs := by
  rw [State.age, State.tbs_autoReturn]
  exact State.eq_foldl State.tbs (fun s ch => s.tbs_ageChannel _ ch _) hostChannels s

@[simp] theorem State.tbs_frameSent (t : Tenant) (ch : Channel) : (s.frameSent t ch).tbs = s.tbs := by
  simp [State.frameSent]

@[simp] theorem State.tbs_writeFrames (t : Tenant) (fuel room : Nat) : (s.writeFrames t fuel room).2.tbs = s.tbs := by
  induction fuel generalizing room s with
  | zero => rfl
  | succ k ih =>
    rw [State.writeFrames]
    split
    · rfl
    · split
      · rfl
      · split
        · rfl
        · dsimp only
          split <;> simp [ih]

@[simp] theorem State.tbs_fillTenantSlot (t : Tenant) (payload : Nat) : (s.fillTenantSlot t payload).2.tbs = s.tbs := by
  unfold State.fillTenantSlot
  split
  · simp
  · dsimp only
    split <;> simp

@[simp] theorem State.tbs_fillSlots (payload : Nat) (owners : List SlotOwner) (tests : List (List Byte)) :
    (s.fillSlots payload owners tests).2.tbs = s.tbs := by
  induction owners generalizing tests s with
  | nil => rfl
  | cons o rest ih => cases o <;> simp [State.fillSlots, ih]

@[simp] theorem State.tbs_fillCarrier (c : Carrier) : (s.fillCarrier c).2.tbs = s.tbs := by
  unfold State.fillCarrier
  split
  · rfl
  · split <;> simp

@[simp] theorem State.tbs_sendSuperframe (c : Carrier) (slots : Option (List (List Byte))) :
    (s.sendSuperframe c slots).tbs = s.tbs := by
  unfold State.sendSuperframe
  split
  · rfl
  · dsimp only
    split <;> simp

@[simp] theorem State.tbs_fillAndSend : s.fillAndSend.tbs = s.tbs := by simp [State.fillAndSend]

end Frames

/-! ### The Sheet Area (chapter 1) -/

section Sheets
variable (s : State) (r : BusRun)

@[simp] theorem BusRun.tbs_write (address : BitVec 64) (bytes : List Byte) : (r.write address bytes).s.tbs = r.s.tbs := by
  rcases r.write_state address bytes with e | e <;> simp [e]

@[simp] theorem BusRun.tbs_andThen (f : State → State) (hf : (f r.s).tbs = r.s.tbs) :
    (r.andThen f).s.tbs = r.s.tbs := by
  unfold BusRun.andThen; split <;> simp [hf]

@[simp] theorem State.tbs_withdraw (sheet : SheetIx) : (s.withdraw sheet).tbs = s.tbs := by
  unfold State.withdraw
  split
  · rfl
  · exact s.tbs_dropTest sheet

@[simp] theorem State.tbs_cancelFound (sheet : SheetIx) (found : Byte) : (s.cancelFound sheet found).tbs = s.tbs := by
  unfold State.cancelFound; split <;> rfl

@[simp] theorem State.tbs_beginScan : s.beginScan.tbs = s.tbs := by
  unfold State.beginScan
  repeat' split
  all_goals rfl

@[simp] theorem State.tbs_beginPending : s.beginPending.tbs = s.tbs := by
  unfold State.beginPending
  split
  · exact State.tbs_beginScan _
  · rfl

@[simp] theorem State.tbs_raiseFault : s.raiseFault.tbs = s.tbs := by simp [State.raiseFault, State.dropSheetSteps]

@[simp] theorem BusRun.tbs_finish : r.finish.tbs = r.s.tbs := by
  unfold BusRun.finish; split <;> simp

@[simp] theorem State.tbs_dropAnswer : s.dropAnswer.tbs = s.tbs := rfl
@[simp] theorem State.tbs_unhold (sheet : SheetIx) : (s.unhold sheet).tbs = s.tbs := rfl
@[simp] theorem State.tbs_setEdition (sheet : SheetIx) (edition : Word) : (s.setEdition sheet edition).tbs = s.tbs := rfl
@[simp] theorem State.tbs_dropRewrite (sheet : SheetIx) : (s.dropRewrite sheet).tbs = s.tbs := rfl

@[simp] theorem BusRun.tbs_writeOldest : r.writeOldest.s.tbs = r.s.tbs := by
  unfold BusRun.writeOldest
  split
  · rfl
  · split
    · exact r.tbs_andThen _ rfl
    · extract_lets _ r1 r2 r3 r4
      have kept : r4.s.tbs = r.s.tbs := by
        simp only [r4, r3, r2, r1, BusRun.access_s]
        split <;> split <;> simp
      split <;> simp [kept]

@[simp] theorem BusRun.tbs_writeAll (n : Nat) : (r.writeAll n).s.tbs = r.s.tbs := by
  induction n generalizing r with
  | zero => rfl
  | succ n ih => rw [BusRun.writeAll, ih, BusRun.tbs_writeOldest]

@[simp] theorem State.tbs_writeAnswerStep : s.writeAnswerStep.tbs = s.tbs := by
  unfold State.writeAnswerStep; split <;> simp [BusRun.start]

@[simp] theorem BusRun.tbs_rereadSheet (h : Held) : (r.rereadSheet h).s.tbs = r.s.tbs := by
  unfold BusRun.rereadSheet
  dsimp only
  split <;> simp

@[simp] theorem BusRun.tbs_reread : r.reread.s.tbs = r.s.tbs := by
  have walk (l : List Held) : (l.foldl BusRun.rereadSheet r).s.tbs = r.s.tbs := by
    induction l generalizing r with
    | nil => rfl
    | cons x rest ih => rw [List.foldl_cons, ih, BusRun.tbs_rereadSheet]
  exact walk _

@[simp] theorem State.tbs_rereadTests : s.rereadTests.tbs = s.tbs := by
  unfold State.rereadTests; split <;> simp [BusRun.start]

@[simp] theorem BusRun.tbs_resumeRest : r.resumeRest.s.tbs = r.s.tbs := by
  unfold BusRun.resumeRest
  split
  · simp
  · rfl

@[simp] theorem BusRun.tbs_rewrite (e : StandingEntry) (words : List Word) : (r.rewrite e words).s.tbs = r.s.tbs := by
  simp [BusRun.rewrite]

@[simp] theorem State.tbs_rewriteStep (sheet : SheetIx) : (s.rewriteStep sheet).tbs = s.tbs := by
  unfold State.rewriteStep
  split
  · rfl
  · split <;> simp [BusRun.start]

@[simp] theorem State.tbs_rewritesFallDue : s.rewritesFallDue.tbs = s.tbs := by
  unfold State.rewritesFallDue
  split
  · rfl
  · exact State.eq_foldl State.tbs (f := fun s e => s.rewriteFallsDue e) (fun _ _ => rfl) _ s

@[simp] theorem State.tbs_startScan : s.startScan.tbs = s.tbs := by
  unfold State.startScan; split <;> simp

@[simp] theorem State.tbs_attention : s.attention.tbs = s.tbs := by
  unfold State.attention
  split
  · simp
  · split
    · rfl
    · simp

end Sheets

end Sys2Proof.Machine
end

section
/-! The Time Counter (R129 to R133): what its own operations do to it, and that every step of the part keeps it in range.
Outside chapters 8 and 9 the counter and the rate stay as they are; within them a gain and a step carry, a seconds setting
moves the seconds alone, and every rate command is clamped. -/

namespace Sys2Proof.Machine

/-! ### The counter's own operations -/

section Counter
variable (t : Tbs)

/-- The fields of the counter and the rate lie in their ranges (section 8.1, R130). -/
def Tbs.inRange (t : Tbs) : Prop :=
  t.ns < 1000000000 ∧ t.fraction < 65536 ∧ t.residue < 1000000000000 ∧ -25000000 ≤ t.rate ∧ t.rate ≤ 25000000

theorem State.counterOk_iff (s : State) : s.counterOk ↔ s.tbs.inRange := Iff.rfl

variable {t}

/-- A gain carries, so it leaves the fields in range (R129). -/
theorem Tbs.inRange.gain (h : t.inRange) (units : Nat) : (t.gain units).inRange := by
  obtain ⟨_, _, _, low, high⟩ := h
  refine ⟨?_, ?_, ?_, low, high⟩ <;> simp only [Tbs.gain, unitsPerSecond, nsUnits, unitsPerNs] <;> omega

/-- A step carries whole seconds (R132). -/
theorem Tbs.inRange.step (h : t.inRange) (offset : Int) : (t.step offset).inRange := by
  obtain ⟨_, fraction, residue, low, high⟩ := h
  refine ⟨?_, fraction, residue, low, high⟩
  simp only [Tbs.step, Int.fmod_eq_emod_of_nonneg _ (show (0 : Int) ≤ 1000000000 by decide)]
  omega

theorem clampInt_mem {low high : Int} (h : low ≤ high) (x : Int) :
    low ≤ clampInt low high x ∧ clampInt low high x ≤ high := by
  unfold clampInt; omega

/-- A rate command is clamped (R130). -/
theorem State.counterOk.rateCommand {s : State} (h : s.counterOk) (r : Int) : (s.rateCommand r).counterOk := by
  obtain ⟨ns, fraction, residue, _, _⟩ := h
  obtain ⟨low, high⟩ := clampInt_mem (show -rateLimit ≤ rateLimit by decide) r
  exact ⟨ns, fraction, residue, low, high⟩

variable (t)

/-- The seconds, nanoseconds, fraction and residue of the counter as units. -/
def Tbs.units (t : Tbs) : Nat := t.unitsInSecond + unitsPerSecond * t.sec.toNat

/-- The units after which the counter wraps: those of 2^48 seconds (R129). -/
def unitsPerWrap : Nat := unitsPerSecond * 2 ^ 48

/-- The counter gains the units given, modulo its 2^48 seconds (R129). -/
theorem Tbs.units_gain (units : Nat) : (t.gain units).units % unitsPerWrap = (t.units + units) % unitsPerWrap := by
  have inSecond := (t.gain_total units).1
  have sec : (t.gain units).sec.toNat = (t.sec.toNat + (t.unitsInSecond + units) / unitsPerSecond) % 2 ^ 48 := by
    simp [Tbs.gain, BitVec.toNat_add]
  have carried : (t.unitsInSecond + units) % unitsPerSecond
      + unitsPerSecond * (t.sec.toNat + (t.unitsInSecond + units) / unitsPerSecond) = t.units + units := by
    have := Nat.mod_add_div (t.unitsInSecond + units) unitsPerSecond
    rw [Tbs.units, Nat.mul_add]
    omega
  have wrapped (n : Nat) : unitsPerSecond * (n % 2 ^ 48) = unitsPerSecond * n % unitsPerWrap :=
    (Nat.mul_mod_mul_left ..).symm
  rw [Tbs.units, inSecond, sec, wrapped, Nat.add_mod_mod, carried]

@[simp] theorem Tbs.gain_superframe (units : Nat) : (t.gain units).superframe = t.superframe := rfl
@[simp] theorem Tbs.gain_rate (units : Nat) : (t.gain units).rate = t.rate := rfl
@[simp] theorem Tbs.tick_rate : t.tick.rate = t.rate := rfl
@[simp] theorem Tbs.tick_superframe : t.tick.superframe = t.superframe := rfl

theorem Tbs.ticks_advance (n : Nat) : (t.ticks n).advance = t.advance + n * tickUnits t.rate := by
  induction n generalizing t with
  | zero => simp [Tbs.ticks]
  | succ n ih => rw [Tbs.ticks, ih, Tbs.tick_rate, Tbs.tick, (t.gain_total _).2, Nat.succ_mul]; omega

theorem Tbs.ticks_keeps (n : Nat) : (t.ticks n).superframe = t.superframe ∧ (t.ticks n).rate = t.rate := by
  induction n generalizing t with
  | zero => exact ⟨rfl, rfl⟩
  | succ n ih => exact ih t.tick

theorem Tbs.units_ticks (n : Nat) :
    (t.ticks n).units % unitsPerWrap = (t.units + n * tickUnits t.rate) % unitsPerWrap := by
  induction n generalizing t with
  | zero => simp [Tbs.ticks]
  | succ n ih =>
    calc (t.tick.ticks n).units % unitsPerWrap
        = (t.tick.units % unitsPerWrap + n * tickUnits t.rate) % unitsPerWrap := by
          rw [ih t.tick, Nat.mod_add_mod, Tbs.tick_rate]
      _ = (t.units + tickUnits t.rate + n * tickUnits t.rate) % unitsPerWrap := by
          rw [Tbs.tick, t.units_gain, Nat.mod_add_mod]
      _ = (t.units + (n + 1) * tickUnits t.rate) % unitsPerWrap := by
          rw [Nat.succ_mul, Nat.add_assoc, Nat.add_comm (tickUnits t.rate)]

variable {t}

theorem Tbs.inRange.ticks (h : t.inRange) (n : Nat) : (t.ticks n).inRange := by
  induction n generalizing t with
  | zero => exact h
  | succ n ih => exact ih (h.gain _)

end Counter

/-! ### Operations of chapters 8 and 9 that leave the counter -/

section Servo
variable (s : State)

/-- A step puts off a start that is reached and not yet taken (R27). -/
@[simp] theorem State.tbs_putOffStart : s.putOffStart.tbs = { s.tbs with starting := false } := by
  unfold State.putOffStart
  split
  · rfl
  · next h => rw [← Bool.eq_false_iff.2 h]

@[simp] theorem State.tbs_afterStep :
    s.afterStep.tbs = { s.tbs with starting := false, stepAt := some s.tbs.advance } := by
  simp [State.afterStep]

@[simp] theorem State.tbs_refreshClass : s.refreshClass.tbs = s.tbs := by
  unfold State.refreshClass
  dsimp only
  split <;> simp

@[simp] theorem State.tbs_setTimingState (st : TimingState) : (s.setTimingState st).tbs = s.tbs := by
  unfold State.setTimingState; split <;> simp

@[simp] theorem State.tbs_selectSource : s.selectSource.tbs = s.tbs := by
  unfold State.selectSource
  dsimp only
  split <;> simp

@[simp] theorem State.tbs_countSample (theta : Int) : (s.countSample theta).tbs = s.tbs := by
  unfold State.countSample
  dsimp only
  split <;> simp [apply_ite State.tbs]

@[simp] theorem State.tbs_spendHoldover : s.spendHoldover.tbs = s.tbs := by
  unfold State.spendHoldover; split <;> simp

@[simp] theorem State.tbs_answerLabel (l : PendingLabel) (code : AnswerCode) : (s.answerLabel l code).tbs = s.tbs := by
  unfold State.answerLabel; split <;> rfl

@[simp] theorem State.tbs_gnssLabel (sheet : SheetIx) (params : List Word) : (s.gnssLabel sheet params).tbs = s.tbs := by
  unfold State.gnssLabel
  split
  · split
    · rfl
    · split <;> rfl
  · rfl

end Servo

/-! ### The Timing Servo and the pulse outputs keep the counter in range -/

section Timing
variable {s t : State}

/-- The counter is a part of the Time Base. -/
theorem State.counterOk.of_tbs (h : s.counterOk) (e : t.tbs = s.tbs) : t.counterOk := by
  rw [State.counterOk_iff, e]; exact h

theorem State.counterOk.afterStep (h : s.counterOk) : s.afterStep.counterOk := by
  rw [State.counterOk_iff, State.tbs_afterStep]; exact h

theorem State.counterOk.stepCommand (h : s.counterOk) (offset : Int) : (s.stepCommand offset).counterOk := by
  unfold State.stepCommand
  split
  · exact State.counterOk.afterStep (s := s.onTbs fun t => t.step offset) (Tbs.inRange.step h offset)
  · exact h

theorem State.counterOk.secondsSetting (h : s.counterOk) (v : Seconds) : (s.secondsSetting v).counterOk := by
  unfold State.secondsSetting
  split
  · exact State.counterOk.afterStep (s := s.onTbs fun t => { t with sec := v }) h
  · exact h

theorem State.counterOk.loseSource (h : s.counterOk) : s.loseSource.counterOk := by
  unfold State.loseSource
  split
  · exact State.counterOk.rateCommand (h.of_tbs (by simp)) _
  · exact State.counterOk.rateCommand (h.of_tbs (by simp)) _

theorem State.counterOk.moveState (h : s.counterOk) (theta : Option Int) : (s.moveState theta).counterOk := by
  unfold State.moveState
  dsimp only
  split
  · exact h
  · exact h
  · exact h
  · exact h.loseSource
  · exact h.loseSource
  all_goals cases theta <;> exact h.of_tbs (by simp)

theorem State.counterOk.servoUpdate (h : s.counterOk) (theta : Int) : (s.servoUpdate theta).counterOk := by
  unfold State.servoUpdate
  dsimp only
  split
  · exact h.stepCommand _
  · exact State.counterOk.rateCommand h _

theorem State.counterOk.secondEnd (h : s.counterOk) : s.secondEnd.counterOk := by
  unfold State.secondEnd
  extract_lets gnss link s1 s2 s3 s4 theta s5 s6 s7
  have moved : s6.counterOk := State.counterOk.moveState (h.of_tbs (by simp [s5, s4, s3, s2, s1])) theta
  have updated : s7.counterOk := by
    simp only [s7]
    split
    · exact moved.servoUpdate _
    · exact moved.servoUpdate _
    · exact moved
  exact updated.of_tbs s7.tbs_refreshClass

theorem State.counterOk.wholeSecond (h : s.counterOk) : s.wholeSecond.counterOk := by
  unfold State.wholeSecond
  split
  · exact h.secondEnd
  · exact h

theorem State.counterOk.settleLabel (h : s.counterOk) (c : Stamp) : (s.settleLabel c).counterOk := by
  unfold State.settleLabel
  split
  · exact h
  · next l _ =>
    dsimp only
    split
    · exact (State.counterOk.secondsSetting (s := s.onTsv _) h _).of_tbs (State.tbs_answerLabel _ _ _)
    · exact h.of_tbs (by simp)

theorem State.counterOk.gnssPulse (h : s.counterOk) : s.gnssPulse.counterOk := by
  unfold State.gnssPulse
  split
  · refine State.counterOk.settleLabel ?_ _
    exact h
  · exact h

theorem State.counterOk.timingSet (h : s.counterOk) (sheet : SheetIx) (params : List Word) :
    (s.timingSet sheet params).counterOk := by
  unfold State.timingSet
  split
  · extract_lets raw new s1 s2 s3
    have rated : s2.counterOk := by
      simp only [s2]
      split
      · exact State.counterOk.rateCommand (s := s1) h _
      · exact h
    refine rated.of_tbs ?_
    simp only [s3, State.tbs_answer]
    split <;> simp
  · exact h

theorem State.counterOk.ppsInstant (h : s.counterOk) (i : PpsOut) : (s.ppsInstant i).counterOk := by
  unfold State.ppsInstant; split <;> exact h

theorem State.counterOk.makeDueInstant (h : s.counterOk) (i : PpsOut) : (s.makeDueInstant i).counterOk := by
  unfold State.makeDueInstant
  split
  · exact State.counterOk.ppsInstant (s := s.settle _) h i
  · exact h

theorem State.counterOk.ppsSet (h : s.counterOk) (sheet : SheetIx) (params : List Word) :
    (s.ppsSet sheet params).counterOk := by
  unfold State.ppsSet
  split
  · exact h
  · dsimp only
    split
    · exact h.makeDueInstant _
    · exact h

end Timing

/-! ### Orders and scans -/

section Orders
variable {s : State}

theorem State.counterOk.carryOut (h : s.counterOk) (o : Order) (sheet : SheetIx) (params : List Word) :
    (s.carryOut o sheet params).counterOk := by
  cases o with
  | timingSet => exact h.timingSet sheet params
  | ppsSet => exact h.ppsSet sheet params
  | _ => exact h.of_tbs (by simp [State.carryOut])

theorem State.counterOk.inItsPhases (h : s.counterOk) (o : Order) (sheet : SheetIx) {act : State → State}
    (hact : (act s).counterOk) : (s.inItsPhases o sheet act).counterOk := by
  rcases s.inItsPhases_cases o sheet act with ⟨_, e⟩ | ⟨_, e⟩
  · rw [e]; exact hact
  · rw [e]; exact h

theorem State.counterOk.checkOrder (h : s.counterOk) (sheet : SheetIx) (code : Byte) (count : Nat)
    (params : List Word) : (s.checkOrder sheet code count params).counterOk := by
  unfold State.checkOrder
  split
  · exact h
  · refine h.inItsPhases _ sheet ?_
    split
    · exact h
    · exact h.carryOut _ sheet params

theorem BusRun.takeOrder_counterOk {r : BusRun} (h : r.s.counterOk) (base : BitVec 64) (sheet : SheetIx) :
    (r.takeOrder base sheet).s.counterOk := by
  have written (bytes : List Byte) : (r.access.write (sheetAddress base sheet 0) bytes).s.counterOk := h.of_tbs (by simp)
  unfold BusRun.takeOrder BusRun.andThen
  dsimp only
  split
  · exact State.counterOk.checkOrder (s := State.hold _ _) (written _) sheet _ _ _
  · exact written _

theorem BusRun.scanSheet_counterOk {r : BusRun} (h : r.s.counterOk) (base : BitVec 64) (sheet : SheetIx) :
    (r.scanSheet base sheet).s.counterOk := by
  unfold BusRun.scanSheet
  dsimp only
  split
  · exact BusRun.takeOrder_counterOk (h.of_tbs (by simp)) base sheet
  · exact h.of_tbs (by simp)

theorem BusRun.walk_counterOk (base : BitVec 64) (sheets : List SheetIx) {r : BusRun} (h : r.s.counterOk) :
    (sheets.foldl (BusRun.scanSheet base) r).s.counterOk := by
  induction sheets generalizing r with
  | nil => exact h
  | cons x rest ih => exact ih (BusRun.scanSheet_counterOk h base x)

theorem State.counterOk.scanRun (h : s.counterOk) (left : Option Nat) : (s.scanRun left).s.counterOk := by
  have begun : (BusRun.start left s).resumeRest.s.counterOk := h.of_tbs (BusRun.tbs_resumeRest _)
  unfold State.scanRun
  dsimp only
  split
  · exact begun
  · exact BusRun.walk_counterOk s.scanBase _ begun

theorem State.counterOk.scanStep (h : s.counterOk) : s.scanStep.counterOk := by
  unfold State.scanStep
  split
  · exact h
  · dsimp only
    split
    · exact (h.scanRun none).of_tbs (State.tbs_beginPending _)
    · exact (h.scanRun none).of_tbs (State.tbs_raiseFault _)

theorem State.counterOk.sheetWork (h : s.counterOk) (work : SheetWork) (left : Nat) :
    (s.sheetWork work left).s.counterOk := by
  cases work with
  | scan => exact h.scanRun (some left)
  | answer => exact h.of_tbs (BusRun.tbs_writeOldest _)
  | reread => exact h.of_tbs (BusRun.tbs_reread _)
  | rewrite sheet =>
    unfold State.sheetWork
    dsimp only
    split
    · exact h
    · exact h.of_tbs (BusRun.tbs_rewrite _ _ _)
  | resume => exact h.of_tbs (BusRun.tbs_resumeRest _)

theorem State.counterOk.brokenOff (h : s.counterOk) (work : SheetWork) (made : Nat) :
    (s.brokenOff work made).counterOk := by
  unfold State.brokenOff
  split
  · exact h.sheetWork work made
  · exact h

theorem State.counterOk.requestRestart (h : s.counterOk) (v : Word) : (s.requestRestart v).counterOk := by
  have broken : s.breakOff.counterOk := by
    rcases s.breakOff_cases with ⟨_, e⟩ | ⟨work, made, _, e⟩
    · rw [e]; exact h
    · rw [e]; exact State.counterOk.brokenOff (s := s.draw) h work made
  unfold State.requestRestart
  split
  · exact broken
  · exact h

theorem State.counterOk.busErrorStep (h : s.counterOk) (work : SheetWork) (left : Nat) :
    (s.busErrorStep work left).counterOk := by
  unfold State.busErrorStep
  split
  · exact (h.sheetWork work left).of_tbs (State.tbs_raiseFault _)
  · exact h

end Orders

/-! ### Resets (R24, R25) -/

section Restart
variable {s : State}

/-- Power-on reset leaves the counter and the rate at zero (R141). -/
theorem State.counterOk_powerOn (s : State) (fitted : Bool) : (s.powerOn fitted).counterOk := by
  have zero : Tbs.reset.inRange := by unfold Tbs.inRange; decide
  exact zero

/-- A soft restart keeps the counter and commands a rate or none (R161). -/
theorem State.counterOk.restartValues (h : s.counterOk) : s.restartValues.counterOk := by
  have rated : s.restartRate.counterOk := by
    unfold State.restartRate
    split
    · exact h
    · exact h.rateCommand _
  exact rated

theorem State.counterOk.softRestartStep (h : s.counterOk) : s.softRestartStep.counterOk := by
  unfold State.softRestartStep
  split
  · exact h.restartValues.of_tbs (State.tbs_beginPending _)
  · exact h

end Restart

/-! ### The clock (R26 to R28, R129, R131) -/

section Clock
variable {s : State}

/-- A superframe start counts the superframe and leaves the counter (R26). -/
theorem State.counterOk.superframeStart (h : s.counterOk) : s.superframeStart.counterOk :=
  State.counterOk.of_tbs (s := s.openSuperframe) h (by simp [State.superframeStart])

theorem State.counterOk.profilePointStep (h : s.counterOk) : s.profilePointStep.counterOk := by
  have committed : (((s.commitCarrier .a).commitCarrier .b).berInProfileChange).counterOk := h.of_tbs (by simp)
  exact committed

/-- Every step of the part's own keeps the counter in range. -/
theorem State.counterOk.perform (h : s.counterOk) (c : Instr) : (s.perform c).counterOk := by
  have settled : (s.settle c).counterOk := h
  cases c with
  | softRestart env => exact settled.softRestartStep
  | scan env => exact settled.scanStep
  | superframeStart env => exact settled.superframeStart
  | profilePoint env => exact settled.profilePointStep
  | planPoint env => exact settled
  | wholeSecondMark env => exact settled.wholeSecond
  | ppsPulseInstant env o => exact settled.ppsInstant o
  | ppsPulseEnd env o => exact settled
  | _ => exact h.of_tbs (by simp [State.perform])

theorem State.counterOk.takeTimed (h : s.counterOk) (fuel : Nat) : (s.takeTimed fuel).counterOk := by
  induction fuel generalizing s with
  | zero => exact h
  | succ n ih =>
    rw [State.takeTimed]
    split
    · exact h
    · exact ih (h.perform _)

theorem State.counterOk.tick (h : s.counterOk) : s.tick.counterOk := by
  obtain ⟨_, starting, tbs⟩ := s.tick_frame
  rw [State.counterOk_iff, tbs]
  exact Tbs.inRange.gain h _

theorem State.counterOk.elapse (h : s.counterOk) (n : Nat) : (s.elapse n).counterOk := by
  induction n generalizing s with
  | zero => exact h
  | succ n ih => exact ih (h.takeTimed _).tick

theorem State.counterOk.outside (h : s.counterOk) (o : Outside) : (s.outside o).counterOk := by
  cases o with
  | ticks n => exact h.elapse n
  | registerRead be offset => exact h.of_tbs (s.tbs_hostRead be offset)
  | hostByte | portLink | busMaster | interrupts => exact h

theorem State.counterOk.enter (h : s.counterOk) (env : List Outside) (c : Instr) : (s.enter env c).counterOk := by
  have left : (env.foldl (fun s o => s.outside o) s).counterOk := by
    induction env generalizing s with
    | nil => exact h
    | cons o rest ih => exact ih (h.outside o)
  exact left

end Clock

/-! ### The commands -/

/-- An order as its command carries it out. -/
theorem State.counterOk.order {s : State} (h : s.counterOk) (c : Instr) (o : Order) (sheet : SheetIx)
    (params : List Word) :
    ((s.settle c).inItsPhases o sheet (State.carryOut o sheet params)).counterOk :=
  State.counterOk.inItsPhases (s := s.settle c) h o sheet (State.counterOk.carryOut (s := s.settle c) h o sheet params)

/-- A command leaves the counter in range in the state it answers. -/
theorem exec_keeps_counterOk (c : Instr) {s : State} (h : s.counterOk) :
    ∃ t, exec c s = .next t ∧ t.counterOk := by
  have entered (env : List Outside) : (s.enter env c).counterOk := h.enter env c
  cases c with
  | powerOnReset fitted => exact ⟨_, rfl, s.counterOk_powerOn fitted⟩
  | restartWrite be v => exact ⟨_, rfl, h.requestRestart _⟩
  | registerWriteIgnored o v => exact ⟨_, rfl, h⟩
  | sheetBaseHiWrite | sheetBaseLoWrite | eventsRead | eventMaskWrite => exact ⟨_, rfl, h.of_tbs (by simp)⟩
  | softRestart env => exact ⟨_, rfl, (entered env).softRestartStep⟩
  | scan env => exact ⟨_, rfl, (entered env).scanStep⟩
  | busError env work n => exact ⟨_, rfl, (entered env).busErrorStep work n⟩
  | superframeStart env => exact ⟨_, rfl, (entered env).superframeStart⟩
  | profilePoint env => exact ⟨_, rfl, (entered env).profilePointStep⟩
  | planPoint env | ppsPulseEnd env => exact ⟨_, rfl, entered env⟩
  | wholeSecondMark env => exact ⟨_, rfl, (entered env).wholeSecond⟩
  | gnssEdge env => exact ⟨_, rfl, (entered env).gnssPulse⟩
  | ppsPulseInstant env o => exact ⟨_, rfl, (entered env).ppsInstant o⟩
  | phase | carrierStart | carrierStop | profileSet | portSet | channelSet | tenantSet | tenantRetire | timingSet | ppsSet
  | gnssLabel | verdictSet | test | testStop | standing | read => exact ⟨_, rfl, h.order _ _ _ _⟩
  | attentionWrite env | writeAnswer env | standingRewrite env | drainEnd env | delivery env | miss env
  | carrierBWaitExpiry env | arrival env | aging env | halfSecondMark env | timeCheckCompletion env
  | holdoverLimitExpiry env | sweepSample env | noLoop env | berDurationEnd env | delayCalTimeout env =>
    exact ⟨_, rfl, (entered env).of_tbs (by simp)⟩

/-- A step leaves the counter in range in the state it answers. -/
theorem step_keeps_counterOk {s : State} (h : s.counterOk) : ∃ t, step s = .next t ∧ t.counterOk := by
  unfold step
  split
  · next c rest _ => exact exec_keeps_counterOk c (s := { s with pending := rest }) h
  · split
    · next c _ _ => exact exec_keeps_counterOk c h
    · exact ⟨_, rfl, h.elapse 1⟩

/-- Settles O56: the counter moves by gains and steps, which carry, and the rate by clamped commands; every other function
of the model leaves both. -/
theorem counterStaysInRange : Obligations.CounterStaysInRange := by
  unfold Obligations.CounterStaysInRange
  intro s t h answered
  obtain ⟨u, hu, kept⟩ := step_keeps_counterOk h
  cases answered.symm.trans hu
  exact kept

end Sys2Proof.Machine
end

section
/-! The outputs and inputs of the Time Base (R129, R134 to R137, R150): the ticks of the local oscillator, the GNSS edges and
the label an edge settles, the pulse outputs and their order. -/

namespace Sys2Proof.Machine

/-! ### A step of the part on an empty queue (log entries 11 and 12) -/

/-- Every command completes. -/
theorem exec_completes (c : Instr) (s : State) : ∃ t, exec c s = .next t := by
  cases c <;> exact ⟨_, rfl⟩

theorem step_of_due {s : State} {c : Instr} {rest : List Instr} (empty : s.pending = []) (due : s.due = c :: rest) :
    step s = exec c s := by
  simp only [step, empty, due]

theorem step_of_nothing_due {s : State} (empty : s.pending = []) (due : s.due = []) : step s = .next (s.elapse 1) := by
  simp only [step, empty, due]

theorem step_completes : AlwaysCompletes := by
  intro s
  cases queue : s.pending with
  | cons c rest => simpa only [step, queue] using exec_completes c { s with pending := rest }
  | nil =>
    cases due : s.due with
    | cons c rest => rw [step_of_due queue due]; exact exec_completes c s
    | nil => exact ⟨_, step_of_nothing_due queue due⟩

/-- Settles O2: the two cases of an empty queue are those of `step`, and each command's meaning is a next state. -/
theorem stepOnAnEmptyQueue : Obligations.StepOnAnEmptyQueue := by
  unfold Obligations.StepOnAnEmptyQueue
  exact ⟨fun s empty => ⟨fun _ _ due => step_of_due empty due, step_of_nothing_due empty⟩, step_completes⟩

/-- On an empty queue with nothing due the step is one tick (log entries 2 and 11). -/
theorem step_tick {s : State} (empty : s.pending = []) (due : s.due = []) : step s = .next s.tick := by
  rw [step_of_nothing_due empty due, s.elapse_one (by simp [due])]

/-- Settles O45: by induction on the ticks, each of which gains the same units, the seconds counted in. -/
theorem ticksGainTheirTime : Obligations.TicksGainTheirTime := by
  unfold Obligations.TicksGainTheirTime
  refine ⟨fun n s h => ?_, fun s empty due => ?_⟩
  · intro t units
    have counts (x : Tbs) : units x = x.units := by
      simp only [units, Tbs.units, Tbs.unitsInSecond, unitsPerSecond, nsUnits, unitsPerNs]
      omega
    have modulus : 65536 * 10 ^ 21 * 2 ^ 48 = unitsPerWrap := by decide
    have gained : (524288 * (10 ^ 12 + s.tbs.rate)).toNat = tickUnits s.tbs.rate := rfl
    obtain ⟨superframe, rate⟩ := s.tbs.ticks_keeps n
    rw [counts, counts, modulus, gained]
    exact ⟨s.tbs.units_ticks n, s.tbs.ticks_advance n, superframe, rate, Tbs.inRange.ticks h n⟩
  · obtain ⟨frame, starting, tbs⟩ := s.tick_frame
    exact ⟨s.tick, starting, step_tick empty due, tbs, frame⟩

/-! ### Decoded parameters (R190) -/

theorem decodeIndex_ofNat {n : Nat} (i : Fin n) (small : n ≤ 2 ^ 32) :
    decodeIndex n (BitVec.ofNat 32 i.val) = some i := by
  have value : (BitVec.ofNat 32 i.val).toNat = i.val := Nat.mod_eq_of_lt (Nat.lt_of_lt_of_le i.isLt small)
  simp only [decodeIndex, value, dif_pos i.isLt]

theorem decodeSwitch_ofBool (b : Bool) : decodeSwitch (if b then 1 else 0) = some b := by cases b <;> rfl

theorem decodeClass_ofCode (c : TimingClass) : decodeClass (BitVec.ofNat 32 c.code) = some c := by cases c <;> rfl

/-- A clamped quantity is the nearer end of the range outside it. -/
theorem clampInt_eq {low high : Int} (h : low ≤ high) (x : Int) :
    clampInt low high x = if x < low then low else if high < x then high else x := by
  unfold clampInt
  split
  · omega
  · split <;> omega

/-! ### PPS_SET (R136) -/

theorem exec_ppsSet (sheet : SheetIx) (params : List Word) (s : State) :
    exec (.ppsSet sheet params) s = .next ((s.settle (.ppsSet sheet params)).ppsSet sheet params) := rfl

theorem exec_ppsPulseInstant (env : List Outside) (i : PpsOut) (s : State) :
    exec (.ppsPulseInstant env i) s = .next ((s.enter env (.ppsPulseInstant env i)).ppsInstant i) := rfl

theorem exec_ppsPulseEnd (env : List Outside) (i : PpsOut) (s : State) :
    exec (.ppsPulseEnd env i) s = .next ((s.enter env (.ppsPulseEnd env i)).ppsEnd i) := rfl

/-- A whole PPS_SET: the instant that is due is made, then the given fields replace those of the record. -/
theorem State.ppsSet_whole (s : State) (sheet : SheetIx) (i : PpsOut) (enable : Bool) (offset : Word) (cls : TimingClass) :
    s.ppsSet sheet [BitVec.ofNat 32 i.val, if enable then 1 else 0, offset, BitVec.ofNat 32 cls.code]
      = ((s.makeDueInstant i).onTbs fun t =>
          { t with pps := tableModify t.pps i fun o => o.setting enable offset.toInt cls }).answer sheet
          (if clampInt (-500000) 500000 offset.toInt = offset.toInt then .done else .adjusted) [] := by
  have output (w : List Word) : required (BitVec.ofNat 32 i.val :: w) 0 (decodeIndex 2) = some i :=
    decodeIndex_ofNat i (by decide)
  have switch (x y z : Word) (kept : Bool) :
      given [x, if enable then 1 else 0, y, z] 1 decodeSwitch kept = some enable := decodeSwitch_ofBool enable
  have squelch (x y z : Word) (kept : TimingClass) :
      given [x, y, z, BitVec.ofNat 32 cls.code] 3 decodeClass kept = some cls := decodeClass_ofCode cls
  simp only [State.ppsSet, output, switch, squelch]
  rfl

/-- Settles O25: the order makes the instant that is due by its own step, then writes the record. -/
theorem ppsSetReplacesTheRecord : Obligations.PpsSetReplacesTheRecord := by
  unfold Obligations.PpsSetReplacesTheRecord
  intro sheet o enable offset cls s params e offset' set
  have clamped : clampInt (-500000) 500000 offset.toInt = offset' := clampInt_eq (by decide) _
  have written : exec (.ppsSet sheet params) s = .next (set (e.makeDueInstant o)) := by
    rw [exec_ppsSet, State.ppsSet_whole, clamped]
    simp only [PpsOutput.setting, clamped]
    rfl
  rw [written]
  rcases e.makeDueInstant_cases o with ⟨none, same⟩ | ⟨due, made⟩
  · exact ⟨fun _ => by rw [same], fun due => absurd due none⟩
  · exact ⟨fun none => absurd due none, fun _ => ⟨_, exec_ppsPulseInstant [] o e, by rw [made]; rfl⟩⟩

/-! ### Pulses (R135, R137) -/

theorem State.ppsEmits_iff (s : State) (i : PpsOut) :
    s.ppsEmits i = true ↔ s.tbs.pps[i].enable = true ∧ s.tbs.pps[i].squelch.code ≤ s.tsv.timingClass.code
      ∧ ∀ p, s.tbs.pps[i].lastPulse = some p → p + nsUnits 500000000 ≤ s.tbs.advance := by
  simp only [State.ppsEmits, Bool.and_eq_true, and_assoc, TimingClass.atLeast, decide_eq_true_eq, PpsOutput.guardAllows]
  cases s.tbs.pps[i].lastPulse <;> simp

/-- Settles O48: the conditions of a pulse are those of `ppsEmits`. -/
theorem ppsOutputsPulse : Obligations.PpsOutputsPulse := by
  unfold Obligations.PpsOutputsPulse
  refine fun env o s => ⟨?_, ?_⟩
  · intro e pulses
    have emits : e.ppsEmits o = true ↔ pulses := e.ppsEmits_iff o
    have instant : exec (.ppsPulseInstant env o) s = .next (e.ppsInstant o) := exec_ppsPulseInstant env o s
    rw [instant, State.ppsInstant]
    exact ⟨fun silent => by rw [if_neg (mt emits.1 silent)], fun fires => by rw [if_pos (emits.2 fires)]; rfl⟩
  · intro e
    exact exec_ppsPulseEnd env o s

/-! ### GNSS edges and labels (R134, R150) -/

theorem exec_gnssEdge (env : List Outside) (s : State) :
    exec (.gnssEdge env) s = .next (s.enter env (.gnssEdge env)).gnssPulse := rfl

theorem State.captureAccepted_iff (s : State) :
    s.captureAccepted = true
      ↔ ∀ x a, s.tbs.lastCapture = some (x, a) → a + nsUnits 900000000 ≤ s.tbs.advance := by
  unfold State.captureAccepted
  cases s.tbs.lastCapture with
  | none => simp
  | some last => obtain ⟨x, a⟩ := last; simp

/-- An accepted edge: the capture is kept for the guard and becomes the candidate of the second. -/
def State.capture (s : State) : State :=
  (s.onTbs fun t => { t with lastCapture := some (s.now, t.advance) }).onTsv fun v =>
    { v with gnssCandidate := some s.now }

theorem State.gnssPulse_rejected {s : State} (h : s.captureAccepted = false) : s.gnssPulse = s := by
  simp [State.gnssPulse, h]

theorem State.gnssPulse_accepted {s : State} (h : s.captureAccepted = true) :
    s.gnssPulse = s.capture.settleLabel s.now := by
  simp [State.gnssPulse, h, State.capture]

theorem State.settleLabel_none {s : State} (c : Stamp) (h : s.tsv.label = none) : s.settleLabel c = s := by
  simp only [State.settleLabel, h]

/-- Where no step is permitted an edge answers the label of a held sheet by comparison (R150). -/
theorem State.settleLabel_compared {s : State} (c : Stamp) {v : Seconds} {sheet : SheetIx}
    (h : s.tsv.label = some ⟨v, some sheet⟩) (fixed : s.phaseAllowsSteps = false) :
    s.settleLabel c = (s.onTsv fun v => { v with label := none }).answer sheet
      (if v = edgeSeconds c then .done else .labelMismatch) [] := by
  simp [State.settleLabel, h, fixed, State.answerLabel, eq_comm (a := v)]

/-- In ACQUIRING, where steps are permitted, an edge sets the seconds by the label of a held sheet (R150). -/
theorem State.settleLabel_sets {s : State} (c : Stamp) {v : Seconds} {sheet : SheetIx}
    (h : s.tsv.label = some ⟨v, some sheet⟩) (allowed : s.phaseAllowsSteps = true) (acquiring : s.tsv.state = .acquiring) :
    s.settleLabel c = (((s.onTsv fun v => { v with label := none }).onTbs fun t =>
      { t with sec := labelSetting c v }).afterStep).answer sheet .done [] := by
  have permitted : (s.onTsv fun v => { v with label := none }).phaseAllowsSteps = true := allowed
  simp [State.settleLabel, h, allowed, acquiring, State.answerLabel, State.secondsSetting, permitted]

/-- A step is seen by a running DELAY_CAL alone (R177). -/
theorem State.testSeesStep_frame (s : State) : s.testSeesStep = { s with tru := s.testSeesStep.tru } := by
  unfold State.testSeesStep
  split
  · rfl
  · split <;> rfl

/-- What an applied step does besides the counter's new value (R27, R46, R132, R146). -/
theorem State.afterStep_eq (s : State) :
    s.afterStep =
      { s with
        tbs := { s.tbs with starting := false, stepAt := some s.tbs.advance }
        cfr := { a := { s.cfr.a with departures := [] }, b := { s.cfr.b with departures := [] } }
        tsv := { s.tsv with linkCandidates := { a := none, b := none } }
        tru := s.afterStep.tru
        due := s.afterStep.due } := by
  rw [← s.tbs_afterStep]
  unfold State.afterStep
  extract_lets s1 s2 s3
  rw [State.testSeesStep_frame]
  simp only [s3, s2, s1, State.putOffStart]
  split <;> rfl

/-- Settles O47: the guard, then the three fates of a pending label. -/
theorem gnssEdgeIsCaptured : Obligations.GnssEdgeIsCaptured := by
  unfold Obligations.GnssEdgeIsCaptured
  intro env s e c taken
  have edge : exec (.gnssEdge env) s = .next e.gnssPulse := exec_gnssEdge env s
  rw [edge]
  refine ⟨fun x a last soon => ?_, fun guard => ?_⟩
  · rw [State.gnssPulse_rejected (by simp [State.captureAccepted, last, soon])]
  · have captured : e.gnssPulse = taken.settleLabel c := State.gnssPulse_accepted (e.captureAccepted_iff.2 guard)
    rw [captured]
    refine ⟨fun none => ?_, fun v sheet label service => ?_, fun v sheet label commission acquiring => ?_⟩
    · rw [State.settleLabel_none (s := taken) c none]
    · have fixed : taken.phaseAllowsSteps = false := by
        change e.phaseAllowsSteps = false
        simp [State.phaseAllowsSteps, service]
      rw [State.settleLabel_compared (s := taken) c label fixed]
      rfl
    · have allowed : taken.phaseAllowsSteps = true := by
        change e.phaseAllowsSteps = true
        simp [State.phaseAllowsSteps, commission]
      refine ⟨_, rfl, ?_⟩
      rw [State.settleLabel_sets (s := taken) c label allowed acquiring, State.afterStep_eq]
      exact ⟨rfl, rfl, rfl, rfl, rfl⟩

end Sys2Proof.Machine
end
